-- ==== Sys2Proof/Word.lean ====
section
/-! DEFINITION. The widths every other file uses: an operation word, a sample, the index operand of LOOKUP. -/

namespace Sys2Proof

/-- One operation word, `w[15:0]` (30_encoding.md R58). -/
abbrev Word := BitVec 16

/-- A Sample: an 8-bit unsigned amplitude, and also the value of a duration register (00_scope.md R14). An admitted
configuration has SW = DW = 8, the width of this type (`Config.sampleWidthsOk`; DEDUCED, log 10). -/
abbrev Sample := BitVec 8

/-- The 12-bit operand IDX of LOOKUP, `w[11:0]` (30_encoding.md R64). -/
abbrev TableIndex := BitVec 12

end Sys2Proof
end

