-- ==== Sys2Proof/Syntax.lean ====
section
/-! DEFINITION. The four operations of the core's interface (30_encoding.md R57), one constructor per row of
spec/opcode_table.json. Every term of `Instr` is an operation some word spells: LF is a Boolean and IDX has 12 bits
(R65), so no operand is out of range. -/

namespace Sys2Proof

/-- The operations (30_encoding.md R57). -/
inductive Instr where
  /-- RESET: startup initialisation. -/
  | reset
  /-- BOUNDARY: the end of one hardware cycle. -/
  | boundary
  /-- CYCLE LF: one invocation of the handler; `lf = true` means low-frequency mode is selected. -/
  | cycle (lf : Bool)
  /-- LOOKUP IDX: one read of the table port. -/
  | lookup (idx : TableIndex)
deriving DecidableEq, Repr

end Sys2Proof
end

