-- ==== Sys2Proof/Assembly.lean ====
section
/-! DEFINITION. An assembler line as it is written (30_encoding.md R68, R69): operands are numbers and may be out of
range until `AsmLine.wellFormed` has passed. -/

namespace Sys2Proof

/-- One line of assembly: the four operations of R68 and the pseudo-operations of R69. -/
inductive AsmLine where
  /-- `reset` -/
  | reset
  /-- `boundary` -/
  | boundary
  /-- `cycle <lf>` -/
  | cycle (lf : Nat)
  /-- `lookup <idx>` -/
  | lookup (idx : Nat)
  /-- `tick <lf>` -/
  | tick (lf : Nat)
  /-- `run <n>, <lf>` -/
  | run (n lf : Nat)
  /-- `cycle.low` -/
  | cycleLow
  /-- `cycle.high` -/
  | cycleHigh
deriving DecidableEq, Repr

end Sys2Proof
end

