-- ==== Sys2Proof/WellFormed.lean ====
section
/-! DEFINITION. Which assembler lines are well formed (30_encoding.md R68). An `Instr` needs no check: its operands'
types hold exactly the values the encoding has (R65). The configuration's checks are in Machine/ConfigCheck.lean. -/

namespace Sys2Proof

/-- "An assembler rejects a `cycle` operand other than 0 or 1 and an `idx` above 4095" (30_encoding.md R68); `tick` and
`run` hand their `lf` to `cycle` (R69). -/
def AsmLine.wellFormed : AsmLine → Bool
  | .reset => true
  | .boundary => true
  | .cycle lf => lf ≤ 1
  | .lookup idx => idx ≤ 4095
  | .tick lf => lf ≤ 1
  | .run _ lf => lf ≤ 1
  | .cycleLow => true
  | .cycleHigh => true

end Sys2Proof
end

