-- ==== Sys2Proof/Decode.lean ====
section
/-! DEFINITION. The decoder, total on 16-bit words and rejecting by name (30_encoding.md R58 to R67); after it the
encoder, and the assembler of R68 and R69. -/

namespace Sys2Proof

/-- Why a word is reserved (30_encoding.md R66). -/
inductive Reserved where
  /-- OP is 0x0 or 0x5 to 0xF. -/
  | opcode
  /-- Format N with `w[11:0] ≠ 0`. -/
  | noOperandFormat
  /-- Format C with `w[11:1] ≠ 0`. -/
  | cycleFormat
deriving DecidableEq, Repr

/-- What a word is (30_encoding.md R67): one operation, or reserved. -/
inductive Decoded where
  | instr (i : Instr)
  | reserved (why : Reserved)
deriving DecidableEq, Repr

/-- A row of the opcode map: a word selects it when `w & mask = pattern` (30_encoding.md R60). -/
structure OpcodeRow where
  mnemonic : String
  pattern : Word
  mask : Word
deriving DecidableEq, Repr

/-- The opcode map (30_encoding.md R60). -/
def opcodeMap : List OpcodeRow :=
  [ ⟨"RESET", 0x1000, 0xFFFF⟩,
    ⟨"BOUNDARY", 0x2000, 0xFFFF⟩,
    ⟨"CYCLE", 0x3000, 0xFFFE⟩,
    ⟨"LOOKUP", 0x4000, 0xF000⟩ ]

/-- The row selects the word (30_encoding.md R60). -/
def OpcodeRow.selects (r : OpcodeRow) (w : Word) : Bool := w &&& r.mask == r.pattern

/-- `OP = w[15:12]` (30_encoding.md R58). -/
def opField (w : Word) : BitVec 4 := w.extractLsb' 12 4

/-- `ARG = w[11:0]`, which is IDX in format X (30_encoding.md R58, R65). -/
def argField (w : Word) : TableIndex := w.extractLsb' 0 12

/-- `w[11:1]`, which format C requires to be 0 (30_encoding.md R59). -/
def cycleZeroField (w : Word) : BitVec 11 := w.extractLsb' 1 11

/-- `LF = w[0]` as a Boolean (30_encoding.md R65). -/
def lfField (w : Word) : Bool := w.getLsbD 0

/-- The operation a word spells, or why it spells none (30_encoding.md R60 to R67). -/
def decode (w : Word) : Decoded :=
  if opField w = 0x1 then
    if argField w = 0 then .instr .reset else .reserved .noOperandFormat
  else if opField w = 0x2 then
    if argField w = 0 then .instr .boundary else .reserved .noOperandFormat
  else if opField w = 0x3 then
    if cycleZeroField w = 0 then .instr (.cycle (lfField w)) else .reserved .cycleFormat
  else if opField w = 0x4 then .instr (.lookup (argField w))
  else .reserved .opcode

/-- The word of an operation (30_encoding.md R61 to R64). -/
def encode : Instr → Word
  | .reset => 0x1000
  | .boundary => 0x2000
  | .cycle lf => 0x3000 ||| (BitVec.ofBool lf).setWidth 16
  | .lookup idx => 0x4000 ||| idx.setWidth 16

/-- The operation's mnemonic in the opcode map. -/
def Instr.mnemonic : Instr → String
  | .reset => "RESET"
  | .boundary => "BOUNDARY"
  | .cycle _ => "CYCLE"
  | .lookup _ => "LOOKUP"

/-- The operation's row of the opcode map. -/
def Instr.row : Instr → OpcodeRow
  | .reset => ⟨"RESET", 0x1000, 0xFFFF⟩
  | .boundary => ⟨"BOUNDARY", 0x2000, 0xFFFF⟩
  | .cycle _ => ⟨"CYCLE", 0x3000, 0xFFFE⟩
  | .lookup _ => ⟨"LOOKUP", 0x4000, 0xF000⟩

/-- The word whose bits are `w`, numbered as the opcode table numbers them, every bit at or above `nbits` zero. -/
def tableWord (nbits w : Nat) : Word := BitVec.ofNat 16 (w % 2 ^ nbits)

/-- The operation the decoder reads from a word given as a number. -/
def decodeTableWord (nbits w : Nat) : Option Instr :=
  match decode (tableWord nbits w) with
  | .instr i => some i
  | .reserved _ => none

/-! ### The assembler (what R68 leaves open about blanks, commas and digits is DESIGN CHOICE, log 17) -/

/-- The operations a line stands for (30_encoding.md R68, R69): `tick` is `boundary` then `cycle`, `run` is `n` ticks,
`cycle.low` is `cycle 1` and `cycle.high` is `cycle 0`. Only a well-formed line has a meaning (`assemble`). -/
def AsmLine.expand : AsmLine → List Instr
  | .reset => [.reset]
  | .boundary => [.boundary]
  | .cycle lf => [.cycle (lf == 1)]
  | .lookup idx => [.lookup (BitVec.ofNat 12 idx)]
  | .tick lf => [.boundary, .cycle (lf == 1)]
  | .run n lf => (List.replicate n [Instr.boundary, Instr.cycle (lf == 1)]).flatten
  | .cycleLow => [.cycle true]
  | .cycleHigh => [.cycle false]

/-- The words of a line; a line that is not well formed is rejected (30_encoding.md R68). -/
def assemble (l : AsmLine) : Option (List Word) :=
  if l.wellFormed then some (l.expand.map encode) else none

/-- A decimal digit's value. -/
def decDigit (c : Char) : Option Nat :=
  if '0'.toNat ≤ c.toNat ∧ c.toNat ≤ '9'.toNat then some (c.toNat - '0'.toNat) else none

/-- A hexadecimal digit's value, either case. -/
def hexDigit (c : Char) : Option Nat :=
  if 'a'.toNat ≤ c.toNat ∧ c.toNat ≤ 'f'.toNat then some (c.toNat - 'a'.toNat + 10)
  else if 'A'.toNat ≤ c.toNat ∧ c.toNat ≤ 'F'.toNat then some (c.toNat - 'A'.toNat + 10)
  else decDigit c

/-- The number the digits spell in a base, after the number `acc` read so far. -/
def digitsFrom (base : Nat) (digit : Char → Option Nat) : Nat → List Char → Option Nat
  | acc, [] => some acc
  | acc, c :: cs =>
    match digit c with
    | some d => digitsFrom base digit (acc * base + d) cs
    | none => none

/-- A number, decimal or `0x`-prefixed, as 30_encoding.md R68 gives it for `<idx>`. R68 and R69 give no number format for
`n` and write `<lf>` as `0` or `1`; the model reads every operand by this one function and accepts leading zeros
(DESIGN CHOICE, log 17). -/
def parseNumber : List Char → Option Nat
  | [] => none
  | '0' :: 'x' :: d :: ds => digitsFrom 16 hexDigit 0 (d :: ds)
  | d :: ds => digitsFrom 10 decDigit 0 (d :: ds)

/-- `;` starts a comment (30_encoding.md R68). -/
def stripComment (cs : List Char) : List Char := cs.takeWhile (· != ';')

/-- The words of a line: blanks separate, a comma is a word of its own. `cur` is the word being read. -/
def tokens (cur : List Char) : List Char → List (List Char)
  | [] => if cur = [] then [] else [cur]
  | c :: cs =>
    let done := if cur = [] then [] else [cur]
    if c = ' ' ∨ c = '\t' then done ++ tokens [] cs
    else if c = ',' then done ++ [','] :: tokens [] cs
    else tokens (cur ++ [c]) cs

/-- One line of text (30_encoding.md R68, R69): `some none` for a line with no operation, `none` for a line the assembler
rejects. Every numeral that spells an operand in range is accepted, `cycle 0x1` and `cycle 01` too (DESIGN CHOICE, log
17). -/
def parseLine (cs : List Char) : Option (Option AsmLine) :=
  let accept (l : AsmLine) : Option (Option AsmLine) := if l.wellFormed then some (some l) else none
  match tokens [] (stripComment cs) with
  | [] => some none
  | [['r', 'e', 's', 'e', 't']] => accept .reset
  | [['b', 'o', 'u', 'n', 'd', 'a', 'r', 'y']] => accept .boundary
  | [['c', 'y', 'c', 'l', 'e', '.', 'l', 'o', 'w']] => accept .cycleLow
  | [['c', 'y', 'c', 'l', 'e', '.', 'h', 'i', 'g', 'h']] => accept .cycleHigh
  | [['c', 'y', 'c', 'l', 'e'], x] => (parseNumber x).bind fun lf => accept (.cycle lf)
  | [['l', 'o', 'o', 'k', 'u', 'p'], x] => (parseNumber x).bind fun idx => accept (.lookup idx)
  | [['t', 'i', 'c', 'k'], x] => (parseNumber x).bind fun lf => accept (.tick lf)
  | [['r', 'u', 'n'], x, [','], y] =>
    (parseNumber x).bind fun n => (parseNumber y).bind fun lf => accept (.run n lf)
  | _ => none

end Sys2Proof
end

