-- ==== Sys2Proof/Config.lean ====
section
/-! DEFINITION. The configuration: what an implementation of the core fixes (00_scope.md R8), and the open values of
the reference design, which are opaque constants nothing can evaluate. -/

namespace Sys2Proof

/-- SECONDARY_LAW, how the secondary duration is formed (42_pwm_duty_update.md R80; conflict C1). -/
inductive SecondaryLaw where
  /-- `255 - s`, the spec's normative law. -/
  | onesComplement
  /-- `(256 - s) mod 256`, the variant D00 §9 reports. -/
  | twosNegation
deriving DecidableEq, Repr

/-- The parameters of 00_scope.md R8. The rows the spec derives from others (H, F_CYC, CARRIER_HZ) are functions below. -/
structure Config where
  /-- Table length in entries. -/
  L : Nat
  /-- Correction reload constant. -/
  R : Nat
  /-- Sample width in bits; every rule about samples is for 8 (DEDUCED, log 10). -/
  SW : Nat
  /-- Duration-register width in bits; every rule about them is for 8 (DEDUCED, log 10). -/
  DW : Nat
  /-- Index storage width in bits. -/
  IW : Nat
  /-- Counter storage width in bits. -/
  CW : Nat
  /-- The samples of the Waveform Table, entry `i` at position `i` (10_state.md R23). -/
  table : List Sample
  /-- SECONDARY_LAW; the reference design takes the spec's normative default (DEDUCED, log 14). -/
  law : SecondaryLaw
  /-- F_LOW in whole Hz (DESIGN CHOICE, log 16). -/
  fLow : Nat
  /-- F_HIGH in Hz. -/
  fHigh : Nat
  /-- CYCLE_LEN, the cycle length in carrier units, OPEN in the spec (00_scope.md R8): here a whole number, 0 not shut
  out (DESIGN CHOICE, log 2). -/
  cycleLen : Nat
deriving DecidableEq, Repr

namespace Config

/-- H, the half length `L / 2`. -/
def H (c : Config) : Nat := c.L / 2

/-- The phase complement of index `i`: `(i + L/2) mod L` (00_scope.md R14). -/
def phaseComplement (c : Config) (i : Nat) : Nat := (i + c.H) % c.L

/-- F_CYC, the hardware cycle rate in Hz: `F_LOW × L` (00_scope.md R8, 70_reset_and_hazards.md R145). -/
def fCyc (c : Config) : Nat := c.fLow * c.L

/-- CARRIER_HZ: `F_CYC × CYCLE_LEN` (70_reset_and_hazards.md R146). With CYCLE_LEN = 0, which the model does not shut
out, it is 0 and R8's quotient CARRIER_HZ / CYCLE_LEN no longer gives F_CYC (DESIGN CHOICE, log 2). -/
def carrierHz (c : Config) : Nat := c.fCyc * c.cycleLen

/-- The design-time value of R: the integer nearest to
`table_length / (table_length × (f_high / f_low) - table_length)` (00_scope.md R10), with numerator and denominator
multiplied by `f_low`; a half rounds up (DESIGN CHOICE, log 16). -/
def designReload (c : Config) : Nat :=
  let num := c.L * c.fLow
  let den := c.L * c.fHigh - c.L * c.fLow
  (2 * num + den) / (2 * den)

/-- Free value (DEDUCED, log 1): the first half of the reference table. The spec gives no entry (41_sine_table_lookup.md R73). -/
opaque freeHalfSample : Nat → Sample

/-- Free value (DESIGN CHOICE, log 2): CYCLE_LEN of the reference design, OPEN in the spec (00_scope.md R8,
92_eei_decisions.md D23). That it is a whole number, and that it may be 0, are the model's choice too. -/
opaque freeCycleLen : Nat

/-- `SineShaped(TABLE)`, the shape property, named and uninterpreted (41_sine_table_lookup.md R73; DESIGN CHOICE, log 3). -/
opaque SineShaped : List Sample → Prop

/-- The reference table: 193 free samples and then their complements, so that R72 holds whatever the samples are
(41_sine_table_lookup.md R72, R73; DEDUCED, log 1). -/
def referenceTable : List Sample :=
  (List.range 193).map freeHalfSample ++ (List.range 193).map fun i => ~~~ freeHalfSample i

/-- The reference design (00_scope.md R8). -/
def reference : Config where
  L := 386
  R := 5
  SW := 8
  DW := 8
  IW := 9
  CW := 8
  table := referenceTable
  law := .onesComplement
  fLow := 50
  fHigh := 60
  cycleLen := freeCycleLen

end Config

end Sys2Proof
end

