-- ==== Sys2Proof/Machine/State.lean ====
section
/-! DEFINITION. The machine's state (10_state.md R18 to R38), as plain data, the reasons a step can stop, and the state
right after reset. -/

namespace Sys2Proof.Machine

/-- A fault record, the value of FAULT (60_exceptions.md R112). -/
inductive FaultRecord where
  /-- Code 1, FAULT_INDEX: LOOKUP read outside the table; the info is the 12-bit IDX. -/
  | index (idx : TableIndex)
  /-- Code 2, FAULT_DEADLINE: BOUNDARY found PEND = 1; no info. -/
  | deadline
deriving DecidableEq, Repr

/-- A refusal reason, the value of REFUSED (60_exceptions.md R118). -/
inductive RefusalReason where
  /-- REF_RESERVED: the word is reserved. -/
  | reserved
  /-- REF_NOT_STARTED: an operation other than RESET while STARTED = 0. -/
  | notStarted
  /-- REF_LATE_RESET: RESET while STARTED = 1. -/
  | lateReset
  /-- REF_NOT_PENDING: CYCLE while PEND = 0. -/
  | notPending
  /-- REF_BAD_START: a start state outside INV. -/
  | badStart
  /-- REF_BAD_CONFIG: a configuration that fails 00_scope.md R9. -/
  | badConfig
deriving DecidableEq, Repr

/-- The named ports whose value may still be `⊥` (10_state.md R36). -/
inductive Port where
  | priBuf | secBuf | priAct | secAct | tdata
deriving DecidableEq, Repr

/-- Why the machine stops with a fault. -/
inductive Fault where
  /-- Raised by every operation in a state whose FAULT is already recorded: there is no step (60_exceptions.md R116 check
  1). Safe: the hardware goes on unreported, the model gives no next state (DESIGN CHOICE, log 6). -/
  | halted (r : FaultRecord)
  /-- Raised by an observation of a port that nothing has written, never by an operation (10_state.md R36). Safe: no value
  is given. -/
  | unwritten (p : Port)
deriving DecidableEq, Repr

/-- Why the model gives no step. -/
inductive Refusal where
  /-- An instruction without a meaning; no arm of this model answers it. Safe. -/
  | notModelled (mnemonic : String)
  /-- Answered by every operation in a state whose REFUSED is already set: there is no step (60_exceptions.md R116 check
  2). Safe (DESIGN CHOICE, log 6). -/
  | halted (r : RefusalReason)
  /-- Answered by `step` where the environment has issued no operation: the run is stuck at its last state
  (93_implementation_defined.md U17). Safe (DESIGN CHOICE, log 5). -/
  | noOperation
deriving DecidableEq, Repr

/-- The fault's code number (60_exceptions.md R112). -/
def FaultRecord.code : FaultRecord → Nat
  | .index _ => 1
  | .deadline => 2

/-- The information recorded with the fault (60_exceptions.md R112). -/
def FaultRecord.info : FaultRecord → Option TableIndex
  | .index idx => some idx
  | .deadline => none

/-- The state `S` of 10_state.md R18. A field of type `Option Sample` holds `none` while its value is the spec's own `⊥`
(R12, R36; DEDUCED, log 7). -/
structure State where
  /-- The constants TABLE and R and the other parameters; no operation writes them (R18 (2), R23, R24; DESIGN CHOICE, log 4). -/
  cfg : Config
  /-- IDX, the current table index, IW bits wide (R19; DEDUCED, log 9). -/
  idx : Nat
  /-- SMP, the cached current sample (R20). -/
  smp : Sample
  /-- CNT, the frequency-correction counter, CW bits wide (R21; DEDUCED, log 9). -/
  cnt : Nat
  /-- PEND, the cycle-complete signal (R25). -/
  pend : Bool
  /-- PRI_BUF, the primary duration register (R26). -/
  priBuf : Option Sample
  /-- SEC_BUF, the secondary duration register (R27). -/
  secBuf : Option Sample
  /-- CREQ, the pending commit request (R28). -/
  creq : Bool
  /-- PRI_ACT, the primary duration in effect at the output (R29). -/
  priAct : Option Sample
  /-- SEC_ACT, the secondary duration in effect at the output (R29). -/
  secAct : Option Sample
  /-- TDATA, the output of the table read port (R30). -/
  tdata : Option Sample
  /-- FAULT (R32). -/
  fault : Option FaultRecord
  /-- REFUSED (R33). -/
  refused : Option RefusalReason
  /-- STARTED (R34). -/
  started : Bool
  /-- The model's own field: the operation words the environment has issued and the core has not yet taken, in the run's
  order (00_scope.md R15, 20_memory.md R50; DESIGN CHOICE, log 5). -/
  ops : List Word
deriving DecidableEq, Repr

/-- The state RESET establishes on the reference design (70_reset_and_hazards.md R131, R132; 10_state.md R38). SMP is
`T[0]`, the first sample of the reference table. No operation is waiting. STARTED is 1, as RESET leaves it (DEDUCED, log 13). The
values the spec decides itself are UNVERIFIED, log 15. -/
def State.reset : State where
  cfg := Config.reference
  idx := 0
  smp := Config.freeHalfSample 0
  cnt := 5
  pend := false
  priBuf := none
  secBuf := none
  creq := false
  priAct := none
  secAct := none
  tdata := none
  fault := none
  refused := none
  started := true
  ops := []

end Sys2Proof.Machine
end

