-- ==== Sys2Proof/Machine/Flags.lean ====
section
/-! DEFINITION. The core's two condition flags, PEND and CREQ (10_state.md R35), and every way they are written. -/

namespace Sys2Proof.Machine

/-- `PEND <- 1`: the cycle clock signals the Generator (10_state.md R25; 44_cycle_handler.md R103). -/
def signalCycle (s : State) : State := { s with pend := true }

/-- `PEND <- 0`, step 7: the acknowledgement, and with it the return from the handler, which restores nothing
(44_cycle_handler.md R99; 60_exceptions.md R124). -/
def acknowledgeCycle (s : State) : State := { s with pend := false }

/-- `CREQ <- 1`, step 3 (42_pwm_duty_update.md R81). -/
def requestCommit (s : State) : State := { s with creq := true }

/-- `CREQ <- 0`: the commit clears its request (44_cycle_handler.md R104). -/
def clearRequest (s : State) : State := { s with creq := false }

end Sys2Proof.Machine
end

