-- ==== Sys2Proof/Machine/Operands.lean ====
section
/-! DEFINITION. The operand values an operation uses: IDX of LOOKUP as a number, the mode operand LF of CYCLE, and the
secondary duration formed from the cached sample. -/

namespace Sys2Proof.Machine

/-- IDX as an unsigned index: no scaling, no offset, no sign extension (30_encoding.md R65). -/
def lookupIndex (idx : TableIndex) : Nat := idx.toNat

/-- The correction of step 5 is active on the invocations whose LF is 0 (43_frequency_correction_counter.md R88). -/
def correctionActive (lf : Bool) : Bool := !lf

/-- `Secondary(s)` under each SECONDARY_LAW (42_pwm_duty_update.md R80): the 8-bit complement `255 - s`, or the 8-bit
negation `(256 - s) mod 256`. -/
def secondary : SecondaryLaw → Sample → Sample
  | .onesComplement, s => ~~~ s
  | .twosNegation, s => - s

end Sys2Proof.Machine
end

