-- ==== Sys2Proof/Machine/Ops.lean ====
section
/-! DEFINITION. The operations the meanings share: the table read, the wrap of the index, raising a fault, refusing, the
gate every operation passes, the commit, taking the next operation word and observing a port. -/

namespace Sys2Proof.Machine

/-- The form of the one memory, the table: entry `i` stands at position `i` and there are exactly L of them
(20_memory.md R41; DESIGN CHOICE, log 8). -/
def Memory.wf (s : State) : Bool := s.cfg.table.length = s.cfg.L

/-- `TableRead(i)`: the value `T[i]` for `i < L`; at or beyond L no value exists (20_memory.md R41). -/
def tableRead (c : Config) (i : Nat) : Option Sample :=
  if i < c.L then c.table[i]? else none

/-- `(i + 1) mod L`, the advance of steps 4 and 5 (43_frequency_correction_counter.md R87, R90). -/
def nextIndex (c : Config) (i : Nat) : Nat := (i + 1) % c.L

/-- `raise Fault(code, info)`: FAULT takes the record and nothing else is written (60_exceptions.md R111). This is how
the core takes each of its exceptions; none saves a register or goes to a handler. -/
def raise (r : FaultRecord) (s : State) : State := { s with fault := some r }

/-- `refuse Reason`: REFUSED takes the reason and no other field changes (60_exceptions.md R117). -/
def refuse (r : RefusalReason) (s : State) : State := { s with refused := some r }

/-- Checks 1 and 2 of the gate: no step from a faulted state, nor from a refused one (60_exceptions.md R116). -/
def gate (s : State) (perform : State → Host.Outcome State Fault Refusal) : Host.Outcome State Fault Refusal :=
  match s.fault, s.refused with
  | some r, _ => .fault (.halted r)
  | none, some r => .refused (.halted r)
  | none, none => perform s

/-- The gate with its check 5, for the operations other than RESET (60_exceptions.md R116). -/
def gateStarted (s : State) (perform : State → Host.Outcome State Fault Refusal) : Host.Outcome State Fault Refusal :=
  gate s fun s => if s.started then perform s else .next (refuse .notStarted s)

/-- The commit's writes: both durations at once, then CREQ (44_cycle_handler.md R104). -/
def commitPair (p q : Sample) (s : State) : State :=
  clearRequest { s with priAct := some p, secAct := some q }

/-- Takes the next operation word of the run (00_scope.md R15; DESIGN CHOICE, log 5). -/
def takeOperation (s : State) : Option (Word × State) :=
  match s.ops with
  | [] => none
  | w :: rest => some (w, { s with ops := rest })

/-- A reserved word: the gate's checks 1 and 2 come first, then `refuse REF_RESERVED` (60_exceptions.md R116). -/
def rejectReserved (s : State) : Host.Outcome State Fault Refusal :=
  gate s fun s => .next (refuse .reserved s)

/-- Puts an operation word in front of the ones that wait, so that it is the next operation of the run. -/
def issueOperation (w : Word) (s : State) : State := { s with ops := w :: s.ops }

/-- The content of a port, `none` while it is `⊥`. -/
def portValue : Port → State → Option Sample
  | .priBuf, s => s.priBuf
  | .secBuf, s => s.secBuf
  | .priAct, s => s.priAct
  | .secAct, s => s.secAct
  | .tdata, s => s.tdata

/-- An observation of a port: reading `⊥` faults and gives no value (10_state.md R36). -/
def observe (p : Port) (s : State) : Except Fault Sample :=
  match portValue p s with
  | some v => .ok v
  | none => .error (.unwritten p)

end Sys2Proof.Machine
end

