-- ==== Sys2Proof/Machine/Correction.lean ====
section
/-! DEFINITION. The block `frequency_correction_counter` with the index advance and the sample re-read it controls: steps
4 to 6 of the handler (43_frequency_correction_counter.md R87 to R94). -/

namespace Sys2Proof.Machine

/-- Step 4: `IDX <- (IDX + 1) mod L` (43_frequency_correction_counter.md R87). -/
def advanceIndex (s : State) : State := { s with idx := nextIndex s.cfg s.idx }

/-- Step 5: with LF = 0 the counter is decremented, and where the new value is 0 the index advances once more and the
counter is reloaded (43_frequency_correction_counter.md R88, R89, R90). -/
def correct (lf : Bool) (s : State) : State :=
  if correctionActive lf then
    let s := { s with cnt := s.cnt - 1 }
    if s.cnt = 0 then { s with idx := nextIndex s.cfg s.idx, cnt := s.cfg.R } else s
  else s

/-- Step 6: `SMP <- TableRead(IDX)` (43_frequency_correction_counter.md R93); `none` where the table has no such entry,
which no configuration that meets 00_scope.md R9 allows (41_sine_table_lookup.md R77). -/
def reloadSample (s : State) : Option State :=
  match tableRead s.cfg s.idx with
  | some v => some { s with smp := v }
  | none => none

/-- `Advance(LF)` (43_frequency_correction_counter.md R94). -/
def advance (lf : Bool) (s : State) : Option State := reloadSample (correct lf (advanceIndex s))

/-- IDX and CNT are inside INV (10_state.md R37), so that the arithmetic of steps 4 and 5 is the spec's; outside, the
spec gives CYCLE no behaviour (43_frequency_correction_counter.md R87; DEDUCED, log 11). -/
def generatorInRange (s : State) : Bool :=
  s.idx < s.cfg.L && 1 ≤ s.cnt && s.cnt ≤ s.cfg.R

end Sys2Proof.Machine
end

