-- ==== Sys2Proof/Machine/Duty.lean ====
section
/-! DEFINITION. The block `pwm_duty_update`: steps 1 to 3 of the handler (42_pwm_duty_update.md R79 to R82). -/

namespace Sys2Proof.Machine

/-- `DutyUpdate()` (42_pwm_duty_update.md R82). -/
def dutyUpdate (s : State) : State :=
  let s := { s with priBuf := some s.smp }
  let s := { s with secBuf := some (secondary s.cfg.law s.smp) }
  requestCommit s

end Sys2Proof.Machine
end

