-- ==== Sys2Proof/Machine/Handler.lean ====
section
/-! DEFINITION. CYCLE, one invocation of the per-cycle handler, and BOUNDARY, the end of a hardware cycle
(44_cycle_handler.md). -/

namespace Sys2Proof.Machine

/-- CYCLE LF (44_cycle_handler.md R99): refused while PEND = 0 (R100), else steps 1 to 7 as one step. Outside the index
and counter ranges of INV, and over a table without the entry step 6 reads, the spec admits no run, and the operation is
refused with the reason the spec names for that run (60_exceptions.md R118; DEDUCED, log 11). -/
def execCycle (lf : Bool) (s : State) : Host.Outcome State Fault Refusal :=
  gateStarted s fun s =>
    if s.pend then
      if generatorInRange s then
        match advance lf (dutyUpdate s) with
        | some t => .next (acknowledgeCycle t)
        | none => .next (refuse .badConfig s)
      else .next (refuse .badStart s)
    else .next (refuse .notPending s)

/-- BOUNDARY (44_cycle_handler.md R103): a deadline miss where PEND = 1 (60_exceptions.md R114), else the commit where
CREQ = 1 (R104), then the signal. CREQ = 1 over an unwritten buffer is outside INV (10_state.md R37; DEDUCED, log 11). -/
def execBoundary (s : State) : Host.Outcome State Fault Refusal :=
  gateStarted s fun s =>
    if s.pend then .next (raise .deadline s)
    else if s.creq then
      match s.priBuf, s.secBuf with
      | some p, some q => .next (signalCycle (commitPair p q s))
      | _, _ => .next (refuse .badStart s)
    else .next (signalCycle s)

end Sys2Proof.Machine
end

