-- ==== Sys2Proof/Machine/ConfigCheck.lean ====
section
/-! DEFINITION. The configuration constraints (00_scope.md R9). A configuration that fails one is refused with
REF_BAD_CONFIG (60_exceptions.md R119). -/

namespace Sys2Proof

/-- R9 (a): L is even and `2 ≤ L ≤ 4096`. -/
def Config.lengthOk (c : Config) : Bool := c.L % 2 = 0 && 2 ≤ c.L && c.L ≤ 4096

/-- R9 (b): `1 ≤ R ≤ 2^CW - 1`. -/
def Config.reloadOk (c : Config) : Bool := 1 ≤ c.R && c.R ≤ 2 ^ c.CW - 1

/-- R9 (d): `2^IW ≥ L`. -/
def Config.indexWidthOk (c : Config) : Bool := c.L ≤ 2 ^ c.IW

/-- Samples and duration registers are 8 bits wide, as R9 (c) asks of the table through the range law
(41_sine_table_lookup.md R71) and 10_state.md R26 and R27 say of the registers: no rule gives another width a meaning
(DEDUCED, log 10). -/
def Config.sampleWidthsOk (c : Config) : Bool := c.SW = 8 && c.DW = 8

/-- The table holds exactly L entries (20_memory.md R41). Each is 8 bits by its type (41_sine_table_lookup.md R71). -/
def Config.entriesOk (c : Config) : Bool := c.table.length = c.L

/-- R9 (c): the symmetry law `T[i] + T[(i + L/2) mod L] = 255` for every `i` in `[0, L)` (41_sine_table_lookup.md R72). -/
def Config.symmetric (c : Config) : Bool :=
  (List.range c.L).all fun i =>
    match c.table[i]?, c.table[c.phaseComplement i]? with
    | some a, some b => a.toNat + b.toNat = 255
    | _, _ => false

/-- Every constraint of R9 but the symmetry law: the part no sample's value decides. -/
def Config.shapeOk (c : Config) : Bool :=
  c.lengthOk && c.reloadOk && c.indexWidthOk && c.sampleWidthsOk && c.entriesOk

/-- The configuration meets R9. -/
def Config.ok (c : Config) : Bool := c.shapeOk && c.symmetric

end Sys2Proof
end

