-- ==== Sys2Proof/Machine/Startup.lean ====
section
/-! DEFINITION. RESET, the startup initialisation (70_reset_and_hazards.md R131), and the checks made before the first
operation of a run (R133; 60_exceptions.md R118, R119). -/

namespace Sys2Proof.Machine

/-- The writes of RESET, `v` being `TableRead(0)` (70_reset_and_hazards.md R131). -/
def startup (v : Sample) (s : State) : State :=
  { s with
    idx := 0, smp := v, cnt := s.cfg.R, pend := false, creq := false, priBuf := none, secBuf := none,
    priAct := none, secAct := none, tdata := none, fault := none, refused := none, started := true }

/-- RESET (70_reset_and_hazards.md R131): refused while STARTED = 1 (60_exceptions.md R116 check 4). A configuration
whose shape fails 00_scope.md R9 admits no run (60_exceptions.md R119; DEDUCED, log 11). -/
def execReset (s : State) : Host.Outcome State Fault Refusal :=
  gate s fun s =>
    if s.started then .next (refuse .lateReset s)
    else if s.cfg.shapeOk then
      match tableRead s.cfg 0 with
      | some v => .next (startup v s)
      | none => .next (refuse .badConfig s)
    else .next (refuse .badConfig s)

/-- The state of the core at power-up, a new run (60_exceptions.md R130): not started, no mark set, and in every other
field whatever was there (`lost`), since the state before startup initialisation is undefined (60_exceptions.md R118;
DEDUCED, log 12). -/
def powerUp (c : Config) (lost : State) (ops : List Word) : State :=
  { lost with cfg := c, fault := none, refused := none, started := false, ops := ops }

/-- `INV(S)` (10_state.md R37), as a check. -/
def invCheck (s : State) : Bool :=
  s.idx < s.cfg.L && s.cfg.table[s.idx]? = some s.smp && 1 ≤ s.cnt && s.cnt ≤ s.cfg.R &&
    (!s.creq || (s.priBuf.isSome && s.secBuf.isSome))

/-- The checks "decided before the first operation" (60_exceptions.md R118): a configuration that fails R9 is refused
with REF_BAD_CONFIG; a stated start state (STARTED = 1) with a mark set or outside INV with REF_BAD_START
(70_reset_and_hazards.md R133; DEDUCED, log 12). A reason already set stays (10_state.md R33). -/
def startRun (s : State) : State :=
  if s.refused.isSome then s
  else if !s.cfg.ok then refuse .badConfig s
  else if s.started && !(invCheck s && s.fault.isNone) then refuse .badStart s
  else s

end Sys2Proof.Machine
end

