-- ==== Sys2Proof/Machine/Table.lean ====
section
/-! DEFINITION. LOOKUP, the read of the table port (41_sine_table_lookup.md R75, R76). -/

namespace Sys2Proof.Machine

/-- `TDATA <- v` (41_sine_table_lookup.md R75); no other operation writes TDATA but RESET. -/
def latchData (v : Sample) (s : State) : State := { s with tdata := some v }

/-- LOOKUP IDX (41_sine_table_lookup.md R75): FAULT_INDEX where `IDX ≥ L` (R76), else TDATA takes the entry. A table
without an entry below L is no configuration of the spec (00_scope.md R9; DEDUCED, log 11). -/
def execLookup (idx : TableIndex) (s : State) : Host.Outcome State Fault Refusal :=
  gateStarted s fun s =>
    if s.cfg.L ≤ lookupIndex idx then .next (raise (.index idx) s)
    else
      match tableRead s.cfg (lookupIndex idx) with
      | some v => .next (latchData v s)
      | none => .next (refuse .badConfig s)

end Sys2Proof.Machine
end

