-- ==== Sys2Proof/Machine/Dispatch.lean ====
section
/-! DEFINITION. One arm per operation. -/

namespace Sys2Proof.Machine

def exec (i : Instr) (s : State) : Host.Outcome State Fault Refusal :=
  match i with
  | .reset => Sys2Proof.Machine.execReset s
  | .boundary => Sys2Proof.Machine.execBoundary s
  | .cycle lf => Sys2Proof.Machine.execCycle lf s
  | .lookup idx => Sys2Proof.Machine.execLookup idx s

end Sys2Proof.Machine
end

