-- ==== Sys2Proof/Machine/Step.lean ====
section
/-! DEFINITION. One step of a run: the next operation word is taken, decoded and performed (00_scope.md R15;
60_exceptions.md R116). -/

namespace Sys2Proof.Machine

/-- One step. A word that decodes is performed; a reserved word is refused after the gate's first two checks; with no
word waiting the run is stuck (93_implementation_defined.md U17; DESIGN CHOICE, log 5). The model has no time (DESIGN CHOICE, log 18). -/
def step (s : State) : Host.Outcome State Fault Refusal :=
  match takeOperation s with
  | none => .refused .noOperation
  | some (w, t) =>
    match decode w with
    | .instr i => exec i t
    | .reserved _ => rejectReserved t

/-- `s` with the word as the next operation of the run (DEDUCED, log 13). -/
def State.withFetchWord (s : State) (nbits w : Nat) : State := issueOperation (tableWord nbits w) s

end Sys2Proof.Machine
end

