-- ==== Sys2Proof/Safety.lean ====
section
/-! DEFINITION. The terms claims are stated in: which states are good (60_exceptions.md R111, R117; 10_state.md R37), the
schedules of operations (44_cycle_handler.md R105), and what a claim observes (00_scope.md R16). -/

namespace Sys2Proof.Machine

/-- No fault is recorded and no refusal is set: the premise of every claim (00_scope.md R16). -/
abbrev State.Live (s : State) : Prop := s.fault = none ∧ s.refused = none

/-- The gate lets an operation other than RESET through (60_exceptions.md R116). -/
abbrev State.Ready (s : State) : Prop := s.Live ∧ s.started = true

/-- `INV(S)` (10_state.md R37). -/
abbrev State.Inv (s : State) : Prop :=
  s.idx < s.cfg.L ∧ s.cfg.table[s.idx]? = some s.smp ∧ 1 ≤ s.cnt ∧ s.cnt ≤ s.cfg.R ∧
    (s.creq = true → s.priBuf ≠ none ∧ s.secBuf ≠ none)

/-- What every step keeps: once the core has started, its configuration has the shape of 00_scope.md R9 and the state
meets INV. -/
abbrev State.RunInv (s : State) : Prop := s.started = true → s.cfg.shapeOk = true ∧ s.Inv

/-- Wherever both durations of a pair hold values they sum to 255: the buffers, and the output pair
(42_pwm_duty_update.md R83, 44_cycle_handler.md R108). -/
def State.PairsComplementary (s : State) : Prop :=
  (∀ p q, s.priBuf = some p → s.secBuf = some q → p.toNat + q.toNat = 255) ∧
    ∀ p q, s.priAct = some p → s.secAct = some q → p.toNat + q.toNat = 255

/-- The outcome is a next state that is still live: the operation neither faulted nor was refused. -/
def completes (o : Host.Outcome State Fault Refusal) : Prop := ∃ t, o = .next t ∧ t.Live

/-- The operations in order, until one gives no step. -/
def runOps : List Instr → State → Host.Outcome State Fault Refusal
  | [], s => .next s
  | i :: is, s =>
    match exec i s with
    | .next t => runOps is t
    | .fault r => .fault r
    | .refused r => .refused r

/-- `tick lf`: BOUNDARY then CYCLE, one hardware cycle (30_encoding.md R69). -/
def tick (lf : Bool) : List Instr := [.boundary, .cycle lf]

/-- One tick for each value of LF. -/
def ticks (lfs : List Bool) : List Instr := lfs.flatMap tick

/-- The operations alternate BOUNDARY and CYCLE, with LOOKUPs anywhere and no RESET (44_cycle_handler.md R105); the first
of the two is CYCLE where an invocation is owed (`pend`). -/
def tickSchedule : Bool → List Instr → Bool
  | _, [] => true
  | pend, .lookup _ :: is => tickSchedule pend is
  | false, .boundary :: is => tickSchedule true is
  | true, .cycle _ :: is => tickSchedule false is
  | _, .reset :: _ => false
  | true, .boundary :: _ => false
  | false, .cycle _ :: _ => false

/-- The duration pair an operation commits to the output, if it commits one (00_scope.md R16; 44_cycle_handler.md R104):
a BOUNDARY that clears CREQ. -/
def commitOf (i : Instr) (s t : State) : List (Sample × Sample) :=
  match i, s.creq, t.creq, t.priAct, t.secAct with
  | .boundary, true, false, some p, some q => [(p, q)]
  | _, _, _, _, _ => []

/-- The pairs a sequence of operations commits, in order (00_scope.md R16). -/
def commits : List Instr → State → List (Sample × Sample)
  | [], _ => []
  | i :: is, s =>
    match exec i s with
    | .next t => commitOf i s t ++ commits is t
    | .fault _ => []
    | .refused _ => []

/-- The number of skips in `n` invocations with LF = 0 that start with `CNT = c` (43_frequency_correction_counter.md R92). -/
def skipCount (R c n : Nat) : Nat := if n < c then 0 else (n - c) / R + 1

/-- The table indices whose samples successive invocations write, from index `p` and counter `c`: `p_0, p_1, …` of
44_cycle_handler.md R106, one for each LF of the list. -/
def positions (L R : Nat) : Nat → Nat → List Bool → List Nat
  | _, _, [] => []
  | p, c, true :: lfs => p :: positions L R ((p + 1) % L) c lfs
  | p, c, false :: lfs =>
    p :: (if c = 1 then positions L R ((p + 2) % L) R lfs else positions L R ((p + 1) % L) (c - 1) lfs)

end Sys2Proof.Machine
end

