-- ==== Sys2Proof/Certificates/Slice0/Obligations.lean ====
section
/-! DEFINITION. The statements about the core, for the provers. Where a clause rests on a decision of the spec's own
(92_eei_decisions.md D<n>) or on a log entry of the model, the docstring says so. -/

open Sys2Proof Sys2Proof.Machine

/-! ### Words and operations (30_encoding.md) -/

/-- Words written out from the spec's encodings decode to the operations they stand for (30_encoding.md sections 3 and
6, the spec's construction D1). -/
def Obligations.ExampleWordsDecode : Prop :=
  decode 0x1000 = .instr .reset ∧ decode 0x2000 = .instr .boundary ∧ decode 0x3000 = .instr (.cycle false) ∧
    decode 0x3001 = .instr (.cycle true) ∧ decode 0x40C1 = .instr (.lookup 193) ∧
    decode 0x4182 = .instr (.lookup 386) ∧ decode 0x4FFF = .instr (.lookup 4095) ∧
    decode 0x3002 = .reserved .cycleFormat ∧ decode 0x1001 = .reserved .noOperandFormat ∧
    decode 0x0000 = .reserved .opcode ∧ decode 0x5000 = .reserved .opcode

/-- Every operation, with every operand value, is what the decoder reads from its word (30_encoding.md sections 2 to 4,
D1). -/
def Obligations.DecodeOfEncodeIsTheOperation : Prop :=
  ∀ i : Instr, decode (encode i) = .instr i

/-- A word that decodes is the word of that operation, so no bit of a word is ignored (30_encoding.md sections 2 to 5,
D1, D15). -/
def Obligations.EncodeOfDecodeIsTheWord : Prop :=
  ∀ (w : Word) (i : Instr), decode w = .instr i → encode i = w

/-- The reserved words are the ones 30_encoding.md section 5 lists, each under the reason that applies (D15). -/
def Obligations.ReservedWordsAreExactlyTheListed : Prop :=
  ∀ w : Word,
    (decode w = .reserved .opcode ↔ w.toNat / 4096 = 0 ∨ 5 ≤ w.toNat / 4096) ∧
    (decode w = .reserved .noOperandFormat ↔
      (w.toNat / 4096 = 1 ∨ w.toNat / 4096 = 2) ∧ w.toNat % 4096 ≠ 0) ∧
    (decode w = .reserved .cycleFormat ↔ w.toNat / 4096 = 3 ∧ w.toNat % 4096 / 2 ≠ 0)

/-- A row of the opcode map selects a word (`w & mask = match`) exactly when the word decodes to an operation of that
row's mnemonic, and no two rows select one word (30_encoding.md sections 3 and 5, D1). -/
def Obligations.OpcodeMapAgreesWithTheDecoder : Prop :=
  ∀ w : Word,
    (∀ r ∈ opcodeMap, w &&& r.mask = r.pattern ↔ ∃ i, decode w = .instr i ∧ i.mnemonic = r.mnemonic) ∧
    ∀ r ∈ opcodeMap, ∀ r' ∈ opcodeMap, w &&& r.mask = r.pattern → w &&& r'.mask = r'.pattern → r = r'

/-- The assembler's words: an operand in range gives the words of 30_encoding.md section 6, `tick`, `run`, `cycle.low`
and `cycle.high` expand as the section says, and an operand out of range is rejected (D27). -/
def Obligations.AssemblerExpandsAndRejects : Prop :=
  assemble .reset = some [0x1000] ∧ assemble .boundary = some [0x2000] ∧
    assemble .cycleLow = some [0x3001] ∧ assemble .cycleHigh = some [0x3000] ∧
    ∀ n lf idx : Nat,
      (lf ≤ 1 →
        assemble (.cycle lf) = some [BitVec.ofNat 16 (0x3000 + lf)] ∧
        assemble (.tick lf) = some [0x2000, BitVec.ofNat 16 (0x3000 + lf)] ∧
        assemble (.run n lf) = some (List.replicate n [0x2000#16, BitVec.ofNat 16 (0x3000 + lf)]).flatten) ∧
      (1 < lf → assemble (.cycle lf) = none ∧ assemble (.tick lf) = none ∧ assemble (.run n lf) = none) ∧
      (idx ≤ 4095 → assemble (.lookup idx) = some [BitVec.ofNat 16 (0x4000 + idx)]) ∧
      (4095 < idx → assemble (.lookup idx) = none)

/-! ### The step and the gate (60_exceptions.md section 2) -/

/-- A step takes the next operation word of the run and performs the operation it decodes to, in the state without that
word (log 5 names the queue of words); `withFetchWord` makes a word the next one. -/
def Obligations.StepPerformsTheDecodedOperation : Prop :=
  (∀ (s : State) (w : Word) (rest : List Word) (i : Instr),
    s.ops = w :: rest → decode w = .instr i → step s = exec i { s with ops := rest }) ∧
  ∀ (s : State) (w : Nat) (i : Instr),
    decodeTableWord 16 w = some i → step (s.withFetchWord 16 w) = exec i s

/-- A reserved word in a live state sets REFUSED to REF_RESERVED and changes nothing else, the word itself being taken
(60_exceptions.md sections 2 and 3, D15; log 5), whether or not the core has started. -/
def Obligations.ReservedWordIsRefused : Prop :=
  ∀ (s : State) (w : Word) (rest : List Word) (why : Reserved),
    s.Live → s.ops = w :: rest → decode w = .reserved why →
      step s = .next { s with ops := rest, refused := some .reserved }

/-- There is no step from a faulted or a refused state, for any operation or word, and the fault decides where both
marks are set (60_exceptions.md section 2 checks 1 and 2, D12, D15; the outcome that says "no step" is log 6). -/
def Obligations.HaltedStateTakesNoStep : Prop :=
  (∀ (s : State) (r : FaultRecord) (i : Instr), s.fault = some r → exec i s = .fault (.halted r)) ∧
  (∀ (s : State) (r : RefusalReason) (i : Instr),
    s.fault = none → s.refused = some r → exec i s = .refused (.halted r)) ∧
  ∀ s : State, ¬ s.Live → ∀ t, step s ≠ .next t

/-- With no operation issued the run is stuck at its last state (93_implementation_defined.md U17; log 5). -/
def Obligations.NoOperationMeansNoStep : Prop :=
  ∀ s : State, s.ops = [] → step s = .refused .noOperation

/-- Before RESET every other operation is refused as REF_NOT_STARTED, a CYCLE without a pending signal and a LOOKUP out
of range included; after it a RESET is refused as REF_LATE_RESET (60_exceptions.md section 2 checks 4 and 5, D16). -/
def Obligations.GateChecksStarted : Prop :=
  ∀ s : State, s.Live →
    (s.started = false →
      exec .boundary s = .next { s with refused := some .notStarted } ∧
      (∀ lf, exec (.cycle lf) s = .next { s with refused := some .notStarted }) ∧
      ∀ idx, exec (.lookup idx) s = .next { s with refused := some .notStarted }) ∧
    (s.started = true → exec .reset s = .next { s with refused := some .lateReset })

/-- A fault record's code number and information (60_exceptions.md section 1; the numbers are the spec's own, D12, D14). -/
def Obligations.FaultRecordsCarryCodeAndInfo : Prop :=
  ∀ idx : TableIndex,
    (FaultRecord.index idx).code = 1 ∧ (FaultRecord.index idx).info = some idx ∧
      FaultRecord.deadline.code = 2 ∧ FaultRecord.deadline.info = none

/-! ### Configuration and start of a run -/

/-- The checks made before the first operation, on a state with no refusal set: a configuration outside 00_scope.md
section 3 gives REF_BAD_CONFIG, a stated start state with a fault recorded or outside INV gives REF_BAD_START, every
other state is admitted unchanged (D21; the clause on a recorded fault is log 12, the sample and duration widths are log
10). -/
def Obligations.StartCheckRefusesBadConfigurationsAndStarts : Prop :=
  ∀ s : State, s.refused = none →
    let good : Prop :=
      (s.cfg.L % 2 = 0 ∧ 2 ≤ s.cfg.L ∧ s.cfg.L ≤ 4096) ∧ (1 ≤ s.cfg.R ∧ s.cfg.R ≤ 2 ^ s.cfg.CW - 1) ∧
        (s.cfg.SW = 8 ∧ s.cfg.DW = 8) ∧ s.cfg.table.length = s.cfg.L ∧
        (∀ i < s.cfg.L, ∃ a b : Sample,
          s.cfg.table[i]? = some a ∧ s.cfg.table[(i + s.cfg.L / 2) % s.cfg.L]? = some b ∧
            a.toNat + b.toNat = 255) ∧
        2 ^ s.cfg.IW ≥ s.cfg.L
    (¬ good → startRun s = { s with refused := some .badConfig }) ∧
    (good → s.started = true → ¬ (s.fault = none ∧ s.Inv) →
      startRun s = { s with refused := some .badStart }) ∧
    (good → (s.started = true → s.fault = none ∧ s.Inv) → startRun s = s)

/-- The reference design meets 00_scope.md section 3's constraints whatever its free samples are (log 1), and the model's
reset state (log 13) is admitted. -/
def Obligations.ReferenceDesignIsAdmitted : Prop :=
  Config.reference.ok = true ∧ startRun State.reset = State.reset

/-- The figures of the reference design: 386 entries, half length 193, reload 5 as the nearest integer of the skip-rate
formula, cycle rate 19300 Hz, output 50 Hz over L invocations and 60 Hz with R + 1 positions every R invocations
(00_scope.md section 3, 43_frequency_correction_counter.md section 3, 70_reset_and_hazards.md section 4). -/
def Obligations.ReferenceFigures : Prop :=
  Config.reference.L = 386 ∧ Config.reference.H = 193 ∧ Config.reference.R = Config.reference.designReload ∧
    Config.reference.designReload = 5 ∧ Config.reference.fCyc = 19300 ∧
    Config.reference.fCyc = 50 * Config.reference.L ∧
    Config.reference.fCyc * (Config.reference.R + 1) = 60 * (Config.reference.R * Config.reference.L) ∧
    Config.reference.carrierHz = Config.reference.fCyc * Config.reference.cycleLen

/-- What the range and symmetry laws give every admitted table: an entry half a period on is the bitwise complement and
so differs, `T[0] = 128` exactly when `T[L/2] = 127`, and half a period twice is the same index
(41_sine_table_lookup.md section 1). -/
def Obligations.TableEntriesComeInComplementaryPairs : Prop :=
  ∀ c : Config, c.ok = true →
    (∀ i < c.L, ∃ a b : Sample,
      tableRead c i = some a ∧ tableRead c ((i + c.H) % c.L) = some b ∧ b = ~~~ a ∧ a ≠ b ∧
        ((i + c.H) % c.L + c.H) % c.L = i) ∧
    (tableRead c 0 = some 128 ↔ tableRead c (c.L / 2) = some 127)

/-- The table has a value at an index exactly when the index is below L, and so always at one wrapped modulo L
(20_memory.md section 1, 41_sine_table_lookup.md section 3). -/
def Obligations.TableHasAValueExactlyBelowItsLength : Prop :=
  ∀ c : Config, c.ok = true →
    (∀ i, (∃ v, tableRead c i = some v) ↔ i < c.L) ∧ ∀ i, ∃ v, tableRead c ((i + 1) % c.L) = some v

/-! ### RESET -/

/-- RESET in a live, unstarted state completes and writes every field as 70_reset_and_hazards.md section 1 lists; the
configuration and the waiting words stay (D7 for SMP, D8 for the interface fields, D16 for the gate). -/
def Obligations.ResetInitialisesEveryField : Prop :=
  encode .reset = 0x1000 ∧
  ∀ s : State, s.Live → s.started = false → s.cfg.ok = true →
    ∃ v, s.cfg.table[0]? = some v ∧
      exec .reset s = .next
        { cfg := s.cfg, idx := 0, smp := v, cnt := s.cfg.R, pend := false, priBuf := none, secBuf := none,
          creq := false, priAct := none, secAct := none, tdata := none, fault := none, refused := none,
          started := true, ops := s.ops }

/-- The model's reset state is the one RESET establishes on the reference design from any unstarted live state
(70_reset_and_hazards.md section 1, D7, D8; log 13). -/
def Obligations.ResetStateIsWhatResetEstablishes : Prop :=
  ∀ s : State, s.Live → s.started = false → s.cfg = Config.reference → s.ops = [] →
    exec .reset s = .next State.reset

/-- Nothing that was in the core before power-up survives RESET: whatever the two states held, RESET brings both to the
same state, one that is ready and meets INV (70_reset_and_hazards.md sections 1 and 2, D16, D29; log 12). -/
def Obligations.ResetForgetsWhatWasThere : Prop :=
  ∀ (c : Config) (ops : List Word) (lost lost' : State), c.ok = true →
    ∃ t, exec .reset (powerUp c lost ops) = .next t ∧ exec .reset (powerUp c lost' ops) = .next t ∧
      t.Ready ∧ t.Inv

/-! ### LOOKUP -/

/-- LOOKUP: in range TDATA takes the table's entry, out of range FAULT takes FAULT_INDEX with the index, and nothing
else changes either way. -/
def Obligations.LookupReadsTheEntryOrFaults : Prop :=
  ∀ (idx : TableIndex) (s : State), s.Ready → s.cfg.ok = true →
    encode (.lookup idx) = 0x4000 ||| idx.setWidth 16 ∧
    (idx.toNat < s.cfg.L →
      ∃ v, s.cfg.table[idx.toNat]? = some v ∧ exec (.lookup idx) s = .next { s with tdata := some v }) ∧
    (s.cfg.L ≤ idx.toNat → exec (.lookup idx) s = .next { s with fault := some (.index idx) })

/-- A LOOKUP that completes is idempotent: the same LOOKUP again leaves the state as it is (20_memory.md section 3). -/
def Obligations.LookupIsIdempotent : Prop :=
  ∀ (idx : TableIndex) (s t : State),
    exec (.lookup idx) s = .next t → t.Live → exec (.lookup idx) t = .next t

/-- A LOOKUP in range and an adjacent CYCLE give the same state in either order (20_memory.md section 5). -/
def Obligations.LookupCommutesWithCycle : Prop :=
  ∀ (idx : TableIndex) (lf : Bool) (s : State),
    s.Ready → s.cfg.ok = true → s.Inv → s.pend = true → idx.toNat < s.cfg.L →
      ∃ t, runOps [.lookup idx, .cycle lf] s = .next t ∧ runOps [.cycle lf, .lookup idx] s = .next t ∧ t.Live

/-! ### CYCLE -/

/-- CYCLE with PEND = 1 performs steps 1 to 7 and changes no other field; with PEND = 0 it is refused. The written values
are spelled out: the secondary duration under each law, the index advanced by one or two modulo L, the counter, and the
table's entry at the new index. -/
def Obligations.CyclePerformsTheSevenSteps : Prop :=
  ∀ (lf : Bool) (s : State), s.Ready → s.cfg.ok = true → s.Inv →
    let skip : Bool := !lf && s.cnt == 1
    let newIndex := (s.idx + if skip then 2 else 1) % s.cfg.L
    encode (.cycle lf) = (if lf then 0x3001 else 0x3000) ∧
    (s.pend = true →
      ∃ v, s.cfg.table[newIndex]? = some v ∧
        exec (.cycle lf) s = .next
          { s with
            priBuf := some s.smp
            secBuf := some (if s.cfg.law = .onesComplement then BitVec.ofNat 8 (255 - s.smp.toNat)
              else BitVec.ofNat 8 ((256 - s.smp.toNat) % 256))
            creq := true
            idx := newIndex
            cnt := if lf then s.cnt else if skip then s.cfg.R else s.cnt - 1
            smp := v
            pend := false }) ∧
    (s.pend = false → exec (.cycle lf) s = .next { s with refused := some .notPending })

/-- Every CYCLE whose gate passes, in a state of an admitted run, completes: a next state with no fault and no refusal. -/
def Obligations.CycleAlwaysCompletes : Prop :=
  ∀ (lf : Bool) (s : State), s.Ready → s.pend = true → s.cfg.ok = true → s.Inv → completes (exec (.cycle lf) s)

/-- An invocation completes, writes the sample cached before it, unchanged, to the primary register, and leaves the cache
holding the table's entry at the new index, which is always in range. -/
def Obligations.CycleWritesTheCachedSampleThenReloads : Prop :=
  ∀ (lf : Bool) (s : State), s.Ready → s.pend = true → s.cfg.ok = true → s.Inv →
    ∃ t, exec (.cycle lf) s = .next t ∧ t.Live ∧ t.priBuf = some s.smp ∧ tableRead t.cfg t.idx = some t.smp ∧
      t.cfg = s.cfg

/-- The return from the handler: after a CYCLE that completes PEND is 0, and the next BOUNDARY sets it with no fault. -/
def Obligations.HandlerReturnAllowsTheNextBoundary : Prop :=
  ∀ (lf : Bool) (s t : State), exec (.cycle lf) s = .next t → t.Live →
    t.pend = false ∧ ∃ u, exec .boundary t = .next u ∧ u.Live ∧ u.pend = true

/-- The steps in terms of the named functions of the spec: DutyUpdate writes the sample, the secondary and the request,
and Advance moves the Generator State (42_pwm_duty_update.md section 2, 43_frequency_correction_counter.md section 2). -/
def Obligations.DutyUpdateAndAdvance : Prop :=
  ∀ (lf : Bool) (s : State), s.cfg.ok = true → s.Inv →
    dutyUpdate s =
      { s with priBuf := some s.smp, secBuf := some (secondary s.cfg.law s.smp), creq := true } ∧
    (lf = true → ∃ v, tableRead s.cfg ((s.idx + 1) % s.cfg.L) = some v ∧
      advance lf s = some { s with idx := (s.idx + 1) % s.cfg.L, smp := v }) ∧
    (lf = false → 1 < s.cnt → ∃ v, tableRead s.cfg ((s.idx + 1) % s.cfg.L) = some v ∧
      advance lf s = some { s with idx := (s.idx + 1) % s.cfg.L, cnt := s.cnt - 1, smp := v }) ∧
    (lf = false → s.cnt = 1 → ∃ v, tableRead s.cfg ((s.idx + 2) % s.cfg.L) = some v ∧
      advance lf s = some { s with idx := (s.idx + 2) % s.cfg.L, cnt := s.cfg.R, smp := v })

/-- The index wraps from L-1 to 0 with no entry skipped or repeated, and under INV the advance is the conditional of
43_frequency_correction_counter.md R87. -/
def Obligations.IndexAdvanceWraps : Prop :=
  ∀ s : State, s.Inv →
    (advanceIndex s).idx = (s.idx + 1) % s.cfg.L ∧
    (advanceIndex s).idx = (if s.idx = s.cfg.L - 1 then 0 else s.idx + 1) ∧
    advanceIndex s = { s with idx := (advanceIndex s).idx }

/-- The secondary value under both laws, exactly, and that they differ by one modulo 256 (42_pwm_duty_update.md section
1; conflict C1, D6). -/
def Obligations.SecondaryValuesOfBothLaws : Prop :=
  ∀ s : Sample,
    (secondary .onesComplement s).toNat = 255 - s.toNat ∧
    (secondary .twosNegation s).toNat = (256 - s.toNat) % 256 ∧
    (secondary .twosNegation s).toNat = ((secondary .onesComplement s).toNat + 1) % 256 ∧
    secondary .onesComplement s ≠ secondary .twosNegation s

/-- The differential of the two phases as signed integers: odd and never zero under the complement law, and zero exactly
at 0 and 128 under the negation (42_pwm_duty_update.md section 3; conflict C5). -/
def Obligations.DifferentialOfThePhases : Prop :=
  ∀ s : Sample,
    let d (law : SecondaryLaw) : Int := (s.toNat : Int) - ((secondary law s).toNat : Int)
    d .onesComplement = 2 * (s.toNat : Int) - 255 ∧ d .onesComplement % 2 = 1 ∧ d .onesComplement ≠ 0 ∧
      -255 ≤ d .onesComplement ∧ d .onesComplement ≤ 255 ∧
      (1 ≤ s.toNat → d .twosNegation = 2 * (s.toNat : Int) - 256) ∧
      (d .twosNegation = 0 ↔ s.toNat = 0 ∨ s.toNat = 128)

/-- A CYCLE that completes leaves the two duration registers with sum 255 and complementary bits under the complement
law, and with sum 0 modulo 256 under the negation (42_pwm_duty_update.md section 3). -/
def Obligations.CycleObeysTheComplementLaw : Prop :=
  ∀ (lf : Bool) (s t : State), exec (.cycle lf) s = .next t → t.Live →
    ∃ p q : Sample, t.priBuf = some p ∧ t.secBuf = some q ∧
      (s.cfg.law = .onesComplement → p.toNat + q.toNat = 255 ∧ q = ~~~ p) ∧
      (s.cfg.law = .twosNegation → (p.toNat + q.toNat) % 256 = 0)

/-- The secondary duration a CYCLE writes is the sample half a period away under the complement law, and one more than it
modulo 256 under the negation (42_pwm_duty_update.md section 3). -/
def Obligations.SecondaryIsTheSampleHalfAPeriodAway : Prop :=
  ∀ (lf : Bool) (s t : State), s.cfg.ok = true → s.Inv → exec (.cycle lf) s = .next t → t.Live →
    ∃ h q : Sample, tableRead s.cfg ((s.idx + s.cfg.H) % s.cfg.L) = some h ∧ t.secBuf = some q ∧
      (s.cfg.law = .onesComplement → q = h) ∧
      (s.cfg.law = .twosNegation → q.toNat = (h.toNat + 1) % 256)

/-! ### BOUNDARY -/

/-- BOUNDARY with PEND = 0 completes: with CREQ = 1 it commits both buffers and clears CREQ, with CREQ = 0 it leaves the
output, and either way it sets PEND; no other field changes (44_cycle_handler.md section 3, D9, D28). -/
def Obligations.BoundaryCommitsThenSignals : Prop :=
  encode .boundary = 0x2000 ∧
  ∀ s : State, s.Ready → s.Inv → s.pend = false →
    (s.creq = true → ∃ p q, s.priBuf = some p ∧ s.secBuf = some q ∧
      exec .boundary s =
        .next { s with priAct := some p, secAct := some q, creq := false, pend := true }) ∧
    (s.creq = false → exec .boundary s = .next { s with pend := true })

/-- A BOUNDARY that finds PEND = 1 records FAULT_DEADLINE and writes nothing else. -/
def Obligations.DeadlineMissFaults : Prop :=
  ∀ s : State, s.Ready → s.pend = true → exec .boundary s = .next { s with fault := some .deadline }

/-! ### Frames and writers -/

/-- What each operation that completes leaves unchanged: CYCLE everything but the two buffers, CREQ, IDX, CNT, SMP and
PEND; BOUNDARY everything but PEND and, with CREQ = 1, the output pair and CREQ; LOOKUP everything but TDATA; RESET the
configuration and the waiting words. Every table address reads as before (10_state.md section 8). -/
def Obligations.CompletedOperationFrames : Prop :=
  ∀ s t : State, t.Live →
    (∀ lf, exec (.cycle lf) s = .next t →
      t = { s with
        priBuf := t.priBuf, secBuf := t.secBuf, creq := t.creq, idx := t.idx, cnt := t.cnt, smp := t.smp,
        pend := t.pend } ∧ ∀ a, tableRead t.cfg a = tableRead s.cfg a) ∧
    (exec .boundary s = .next t →
      t = { s with pend := t.pend, priAct := t.priAct, secAct := t.secAct, creq := t.creq } ∧
        (s.creq = false → t = { s with pend := t.pend }) ∧ ∀ a, tableRead t.cfg a = tableRead s.cfg a) ∧
    (∀ idx, exec (.lookup idx) s = .next t →
      t = { s with tdata := t.tdata } ∧ ∀ a, tableRead t.cfg a = tableRead s.cfg a) ∧
    (exec .reset s = .next t →
      t.cfg = s.cfg ∧ t.ops = s.ops ∧ ∀ a, tableRead t.cfg a = tableRead s.cfg a)

/-- An operation that faults or is refused changes the mark alone, and does so from a live state (60_exceptions.md
sections 1 and 3, D12, D15). -/
def Obligations.MarkedOutcomeChangesOnlyTheMark : Prop :=
  ∀ (i : Instr) (s t : State), exec i s = .next t →
    s.Live ∧ ((∃ r, t = { s with fault := some r }) ∨ (∃ r, t = { s with refused := some r }) ∨ t.Live)

/-- The only faults: FAULT_INDEX by a LOOKUP at or beyond L, with its index, and FAULT_DEADLINE by a BOUNDARY with PEND =
1 (60_exceptions.md section 1, D12, D14). -/
def Obligations.OnlyTheTwoFaultsAreRaised : Prop :=
  ∀ (i : Instr) (s t : State) (r : FaultRecord), exec i s = .next t → t.fault = some r →
    (∃ idx : TableIndex, i = .lookup idx ∧ r = .index idx ∧ s.cfg.L ≤ idx.toNat) ∨
      (i = .boundary ∧ r = .deadline ∧ s.pend = true)

/-- In a state an admitted run can be in (RunInv, and an admitted configuration) the only refusals of an operation are
REF_NOT_STARTED, REF_LATE_RESET and REF_NOT_PENDING, each for its reason (60_exceptions.md section 3, D13, D16). -/
def Obligations.RefusalsOfAnAdmittedRun : Prop :=
  ∀ (i : Instr) (s t : State) (r : RefusalReason),
    s.RunInv → s.cfg.ok = true → exec i s = .next t → t.refused = some r →
      (r = .notStarted ∧ i ≠ .reset ∧ s.started = false) ∨
        (r = .lateReset ∧ i = .reset ∧ s.started = true) ∨
        (r = .notPending ∧ s.pend = false ∧ s.started = true ∧ ∃ lf, i = .cycle lf)

/-- PEND: BOUNDARY sets it, CYCLE and RESET clear it, nothing else changes it. While it is 1 one CYCLE is owed: a second
BOUNDARY is FAULT_DEADLINE, and a CYCLE after the owed one is refused. -/
def Obligations.PendLifeCycle : Prop :=
  (∀ (i : Instr) (s t : State), exec i s = .next t →
    (t.Live → (i = .boundary → t.pend = true) ∧ ((i = .reset ∨ ∃ lf, i = .cycle lf) → t.pend = false)) ∧
    (t.pend ≠ s.pend → (i = .boundary ∧ t.pend = true) ∨ ((i = .reset ∨ ∃ lf, i = .cycle lf) ∧ t.pend = false))) ∧
  (∀ s : State, s.Ready → s.pend = true → exec .boundary s = .next { s with fault := some .deadline }) ∧
  ∀ (lf lf' : Bool) (s t : State), exec (.cycle lf) s = .next t → t.Live →
    exec (.cycle lf') t = .next { t with refused := some .notPending }

/-- Only CYCLE and RESET write IDX, SMP and CNT; LOOKUP and BOUNDARY neither write nor read them: with other values there
they do the same to everything else. -/
def Obligations.GeneratorStateHasItsOwnWriters : Prop :=
  (∀ (i : Instr) (s t : State), exec i s = .next t →
    (t.idx, t.smp, t.cnt) ≠ (s.idx, s.smp, s.cnt) → i = .reset ∨ ∃ lf, i = .cycle lf) ∧
  ∀ (i : Instr) (s t : State) (x c : Nat) (m : Sample), (i = .boundary ∨ ∃ idx, i = .lookup idx) →
    exec i s = .next t →
      exec i { s with idx := x, smp := m, cnt := c } = .next { t with idx := x, smp := m, cnt := c }

/-- The output pair changes only at a BOUNDARY with CREQ = 1, which gives both phases the buffers' values and clears CREQ,
or at RESET (10_state.md section 4, 20_memory.md section 5, D9, D28). -/
def Obligations.OutputChangesOnlyAtTheCommit : Prop :=
  ∀ (i : Instr) (s t : State), exec i s = .next t → (t.priAct, t.secAct) ≠ (s.priAct, s.secAct) →
    (i = .boundary ∧ s.creq = true ∧ t.creq = false ∧ t.priAct = s.priBuf ∧ t.secAct = s.secBuf) ∨ i = .reset

/-- The writers of the other fields, as the table of 10_state.md section 8 gives them: the buffers by CYCLE, CREQ set by
CYCLE and cleared by BOUNDARY, TDATA by LOOKUP, STARTED by RESET, and all of them by RESET (D8, D16, D24). -/
def Obligations.InterfaceFieldsHaveTheirWriters : Prop :=
  ∀ (i : Instr) (s t : State), exec i s = .next t →
    ((t.priBuf, t.secBuf) ≠ (s.priBuf, s.secBuf) → i = .reset ∨ ∃ lf, i = .cycle lf) ∧
    (s.creq = false → t.creq = true → ∃ lf, i = .cycle lf) ∧
    (s.creq = true → t.creq = false → i = .boundary ∨ i = .reset) ∧
    (t.tdata ≠ s.tdata → i = .reset ∨ ∃ idx, i = .lookup idx) ∧
    (t.started ≠ s.started → i = .reset ∧ t.started = true)

/-- No step changes the configuration, so the table reads the same at every address for ever and keeps its form
(10_state.md section 3, 20_memory.md sections 4 and 5, D22). -/
def Obligations.TheTableNeverChanges : Prop :=
  ∀ s t : State, step s = .next t →
    t.cfg = s.cfg ∧ (∀ a, tableRead t.cfg a = tableRead s.cfg a) ∧ Memory.wf t = Memory.wf s

/-! ### Invariants -/

/-- Every step keeps RunInv: once started, the configuration has its shape and INV of 10_state.md section 7 holds. -/
def Obligations.EveryStepKeepsTheInvariant : Prop :=
  ∀ s t : State, s.RunInv → step s = .next t → t.RunInv

/-- The reset state is live, started and meets INV (70_reset_and_hazards.md section 1). -/
def Obligations.ResetStateMeetsTheInvariant : Prop :=
  State.reset.Ready ∧ State.reset.RunInv ∧ State.reset.Inv

/-- Inside INV the index and the counter fit their storage widths IW and CW (10_state.md section 2, D2, D3; log 9). -/
def Obligations.IndexAndCounterFitTheirWidths : Prop :=
  ∀ s : State, s.started = true → s.RunInv → s.idx < 2 ^ s.cfg.IW ∧ s.cnt < 2 ^ s.cfg.CW

/-- Under the complement law every step keeps this: whenever both buffers hold values they sum to 255, and so does the
output pair (44_cycle_handler.md section 4). -/
def Obligations.DurationPairsStayComplementary : Prop :=
  ∀ s t : State, s.cfg.law = .onesComplement → s.PairsComplementary → step s = .next t → t.PairsComplementary

/-- Observing a port that holds `⊥` faults, observing a written one gives its value, and right after reset all five hold
`⊥` (10_state.md section 7, D8; log 7). -/
def Obligations.UnwrittenPortsGiveNoValue : Prop :=
  (∀ (p : Port) (s : State), portValue p s = none → observe p s = .error (.unwritten p)) ∧
  (∀ (p : Port) (s : State) (v : Sample), portValue p s = some v → observe p s = .ok v) ∧
  ∀ p : Port, observe p State.reset = .error (.unwritten p)

/-! ### Runs -/

/-- Of all sequences of operations whose LOOKUPs are in range, exactly the tick schedules run through with no fault and no
refusal (44_cycle_handler.md section 4, D12, D13). -/
def Obligations.ExactlyTheTickSchedulesComplete : Prop :=
  ∀ (is : List Instr) (s : State), s.Ready → s.cfg.ok = true → s.Inv →
    (∀ idx : TableIndex, Instr.lookup idx ∈ is → idx.toNat < s.cfg.L) →
      (completes (runOps is s) ↔ tickSchedule s.pend is = true)

/-- Where IDX and CNT stand after any sequence of modes, one tick each: the counter counts the LF = 0 invocations only,
and the index has moved one position for each invocation and one more for each skip (43_frequency_correction_counter.md
R91, R92 as derived there; D4 and D5 for the counting). -/
def Obligations.IndexAndCounterAfterTicks : Prop :=
  ∀ (lfs : List Bool) (s : State), s.Ready → s.cfg.ok = true → s.Inv → s.pend = false →
    let n := lfs.count false
    let k := skipCount s.cfg.R s.cnt n
    ∃ t, runOps (ticks lfs) s = .next t ∧ t.Ready ∧ t.Inv ∧ t.pend = false ∧ t.cfg = s.cfg ∧
      t.idx = (s.idx + lfs.length + k) % s.cfg.L ∧ t.cnt + n = s.cnt + k * s.cfg.R

/-- With LF = 1 throughout, the index is back where it started exactly after the multiples of L invocations, and the
counter does not move (43_frequency_correction_counter.md section 3 (a); D4 for the counter). -/
def Obligations.LowModePeriodIsTheTableLength : Prop :=
  ∀ (n : Nat) (s : State), s.Ready → s.cfg.ok = true → s.Inv → s.pend = false →
    ∃ t, runOps (ticks (List.replicate n true)) s = .next t ∧ t.Live ∧ t.cnt = s.cnt ∧
      (t.idx = s.idx ↔ s.cfg.L ∣ n)

/-- With LF = 0 throughout, index and counter are back together exactly after the multiples of `R × L / gcd(R + 1, L)`
invocations (43_frequency_correction_counter.md section 3 (c); D4, D5). -/
def Obligations.HighModePeriodOfIndexAndCounter : Prop :=
  ∀ (n : Nat) (s : State), s.Ready → s.cfg.ok = true → s.Inv → s.pend = false →
    ∃ t, runOps (ticks (List.replicate n false)) s = .next t ∧ t.Live ∧
      (t.idx = s.idx ∧ t.cnt = s.cnt ↔ s.cfg.R * s.cfg.L / Nat.gcd (s.cfg.R + 1) s.cfg.L ∣ n)

/-- The output timeline: whatever the modes, tick by tick from a state that requests no commit, the pairs committed are,
in order, the samples at the positions the index passes through, each with its secondary value, and there is one for each
tick (44_cycle_handler.md R106 as derived there; D9). -/
def Obligations.OutputTimelineFollowsThePositions : Prop :=
  ∀ (lfs : List Bool) (s : State), s.Ready → s.cfg.ok = true → s.Inv → s.pend = false → s.creq = false →
    commits (ticks lfs ++ [.boundary]) s =
        (positions s.cfg.L s.cfg.R s.idx s.cnt lfs).filterMap (fun p =>
          (tableRead s.cfg p).map fun v => (v, secondary s.cfg.law v)) ∧
      (commits (ticks lfs ++ [.boundary]) s).length = lfs.length

/-- From index 0 and a full counter, as after RESET: with LF = 1 the committed samples are `T[0], T[1], …` round the
table with none repeated or omitted, and with LF = 0 the k-th is `T[(k + ⌊k/R⌋) mod L]`, which omits the entries at
`(j(R+1) - 1) mod L` (44_cycle_handler.md R107 as derived there; D4, D5, D9). -/
def Obligations.CommittedSamplesInEachMode : Prop :=
  ∀ (n : Nat) (s : State), s.Ready → s.cfg.ok = true → s.Inv → s.pend = false → s.creq = false →
    s.idx = 0 → s.cnt = s.cfg.R →
      let samples (at_ : Nat → Nat) : List (Sample × Sample) :=
        (List.range n).filterMap fun k => (tableRead s.cfg (at_ k)).map fun v => (v, secondary s.cfg.law v)
      commits (ticks (List.replicate n true) ++ [.boundary]) s = samples (fun k => k % s.cfg.L) ∧
      commits (ticks (List.replicate n false) ++ [.boundary]) s = samples (fun k => (k + k / s.cfg.R) % s.cfg.L)

/-- The output lags the index by two boundaries: the sample CYCLE 1 loads is written by CYCLE 2 and is at the output
after BOUNDARY 3; and from a state whose output is `⊥` it stays `⊥` until BOUNDARY 2 (70_reset_and_hazards.md section 3;
D9). -/
def Obligations.OutputLagsTwoBoundaries : Prop :=
  ∀ (lf lf' : Bool) (s : State), s.Ready → s.cfg.ok = true → s.Inv → s.pend = false → s.creq = false →
    ∃ t u v : State,
      runOps [.boundary, .cycle lf] s = .next t ∧ t.priAct = s.priAct ∧ t.secAct = s.secAct ∧
      runOps [.boundary] t = .next u ∧ u.priAct = some s.smp ∧ u.secAct = some (secondary s.cfg.law s.smp) ∧
      runOps [.cycle lf', .boundary] u = .next v ∧ v.priAct = some t.smp ∧
      v.secAct = some (secondary s.cfg.law t.smp)
end

