-- ==== Sys2Proof/Laws/State.lean ====
section
/-! SUPPORT. One lemma for each field under each named update of the state, true by rfl, so that no proof unfolds a record
update. -/

namespace Sys2Proof.Machine

@[simp] theorem signalCycle_cfg (s : State) : (signalCycle s).cfg = s.cfg := rfl
@[simp] theorem signalCycle_idx (s : State) : (signalCycle s).idx = s.idx := rfl
@[simp] theorem signalCycle_smp (s : State) : (signalCycle s).smp = s.smp := rfl
@[simp] theorem signalCycle_cnt (s : State) : (signalCycle s).cnt = s.cnt := rfl
@[simp] theorem signalCycle_pend (s : State) : (signalCycle s).pend = true := rfl
@[simp] theorem signalCycle_priBuf (s : State) : (signalCycle s).priBuf = s.priBuf := rfl
@[simp] theorem signalCycle_secBuf (s : State) : (signalCycle s).secBuf = s.secBuf := rfl
@[simp] theorem signalCycle_creq (s : State) : (signalCycle s).creq = s.creq := rfl
@[simp] theorem signalCycle_priAct (s : State) : (signalCycle s).priAct = s.priAct := rfl
@[simp] theorem signalCycle_secAct (s : State) : (signalCycle s).secAct = s.secAct := rfl
@[simp] theorem signalCycle_tdata (s : State) : (signalCycle s).tdata = s.tdata := rfl
@[simp] theorem signalCycle_fault (s : State) : (signalCycle s).fault = s.fault := rfl
@[simp] theorem signalCycle_refused (s : State) : (signalCycle s).refused = s.refused := rfl
@[simp] theorem signalCycle_started (s : State) : (signalCycle s).started = s.started := rfl
@[simp] theorem signalCycle_ops (s : State) : (signalCycle s).ops = s.ops := rfl

@[simp] theorem acknowledgeCycle_cfg (s : State) : (acknowledgeCycle s).cfg = s.cfg := rfl
@[simp] theorem acknowledgeCycle_idx (s : State) : (acknowledgeCycle s).idx = s.idx := rfl
@[simp] theorem acknowledgeCycle_smp (s : State) : (acknowledgeCycle s).smp = s.smp := rfl
@[simp] theorem acknowledgeCycle_cnt (s : State) : (acknowledgeCycle s).cnt = s.cnt := rfl
@[simp] theorem acknowledgeCycle_pend (s : State) : (acknowledgeCycle s).pend = false := rfl
@[simp] theorem acknowledgeCycle_priBuf (s : State) : (acknowledgeCycle s).priBuf = s.priBuf := rfl
@[simp] theorem acknowledgeCycle_secBuf (s : State) : (acknowledgeCycle s).secBuf = s.secBuf := rfl
@[simp] theorem acknowledgeCycle_creq (s : State) : (acknowledgeCycle s).creq = s.creq := rfl
@[simp] theorem acknowledgeCycle_priAct (s : State) : (acknowledgeCycle s).priAct = s.priAct := rfl
@[simp] theorem acknowledgeCycle_secAct (s : State) : (acknowledgeCycle s).secAct = s.secAct := rfl
@[simp] theorem acknowledgeCycle_tdata (s : State) : (acknowledgeCycle s).tdata = s.tdata := rfl
@[simp] theorem acknowledgeCycle_fault (s : State) : (acknowledgeCycle s).fault = s.fault := rfl
@[simp] theorem acknowledgeCycle_refused (s : State) : (acknowledgeCycle s).refused = s.refused := rfl
@[simp] theorem acknowledgeCycle_started (s : State) : (acknowledgeCycle s).started = s.started := rfl
@[simp] theorem acknowledgeCycle_ops (s : State) : (acknowledgeCycle s).ops = s.ops := rfl

@[simp] theorem requestCommit_cfg (s : State) : (requestCommit s).cfg = s.cfg := rfl
@[simp] theorem requestCommit_idx (s : State) : (requestCommit s).idx = s.idx := rfl
@[simp] theorem requestCommit_smp (s : State) : (requestCommit s).smp = s.smp := rfl
@[simp] theorem requestCommit_cnt (s : State) : (requestCommit s).cnt = s.cnt := rfl
@[simp] theorem requestCommit_pend (s : State) : (requestCommit s).pend = s.pend := rfl
@[simp] theorem requestCommit_priBuf (s : State) : (requestCommit s).priBuf = s.priBuf := rfl
@[simp] theorem requestCommit_secBuf (s : State) : (requestCommit s).secBuf = s.secBuf := rfl
@[simp] theorem requestCommit_creq (s : State) : (requestCommit s).creq = true := rfl
@[simp] theorem requestCommit_priAct (s : State) : (requestCommit s).priAct = s.priAct := rfl
@[simp] theorem requestCommit_secAct (s : State) : (requestCommit s).secAct = s.secAct := rfl
@[simp] theorem requestCommit_tdata (s : State) : (requestCommit s).tdata = s.tdata := rfl
@[simp] theorem requestCommit_fault (s : State) : (requestCommit s).fault = s.fault := rfl
@[simp] theorem requestCommit_refused (s : State) : (requestCommit s).refused = s.refused := rfl
@[simp] theorem requestCommit_started (s : State) : (requestCommit s).started = s.started := rfl
@[simp] theorem requestCommit_ops (s : State) : (requestCommit s).ops = s.ops := rfl

@[simp] theorem clearRequest_cfg (s : State) : (clearRequest s).cfg = s.cfg := rfl
@[simp] theorem clearRequest_idx (s : State) : (clearRequest s).idx = s.idx := rfl
@[simp] theorem clearRequest_smp (s : State) : (clearRequest s).smp = s.smp := rfl
@[simp] theorem clearRequest_cnt (s : State) : (clearRequest s).cnt = s.cnt := rfl
@[simp] theorem clearRequest_pend (s : State) : (clearRequest s).pend = s.pend := rfl
@[simp] theorem clearRequest_priBuf (s : State) : (clearRequest s).priBuf = s.priBuf := rfl
@[simp] theorem clearRequest_secBuf (s : State) : (clearRequest s).secBuf = s.secBuf := rfl
@[simp] theorem clearRequest_creq (s : State) : (clearRequest s).creq = false := rfl
@[simp] theorem clearRequest_priAct (s : State) : (clearRequest s).priAct = s.priAct := rfl
@[simp] theorem clearRequest_secAct (s : State) : (clearRequest s).secAct = s.secAct := rfl
@[simp] theorem clearRequest_tdata (s : State) : (clearRequest s).tdata = s.tdata := rfl
@[simp] theorem clearRequest_fault (s : State) : (clearRequest s).fault = s.fault := rfl
@[simp] theorem clearRequest_refused (s : State) : (clearRequest s).refused = s.refused := rfl
@[simp] theorem clearRequest_started (s : State) : (clearRequest s).started = s.started := rfl
@[simp] theorem clearRequest_ops (s : State) : (clearRequest s).ops = s.ops := rfl

@[simp] theorem raise_cfg (r : FaultRecord) (s : State) : (raise r s).cfg = s.cfg := rfl
@[simp] theorem raise_idx (r : FaultRecord) (s : State) : (raise r s).idx = s.idx := rfl
@[simp] theorem raise_smp (r : FaultRecord) (s : State) : (raise r s).smp = s.smp := rfl
@[simp] theorem raise_cnt (r : FaultRecord) (s : State) : (raise r s).cnt = s.cnt := rfl
@[simp] theorem raise_pend (r : FaultRecord) (s : State) : (raise r s).pend = s.pend := rfl
@[simp] theorem raise_priBuf (r : FaultRecord) (s : State) : (raise r s).priBuf = s.priBuf := rfl
@[simp] theorem raise_secBuf (r : FaultRecord) (s : State) : (raise r s).secBuf = s.secBuf := rfl
@[simp] theorem raise_creq (r : FaultRecord) (s : State) : (raise r s).creq = s.creq := rfl
@[simp] theorem raise_priAct (r : FaultRecord) (s : State) : (raise r s).priAct = s.priAct := rfl
@[simp] theorem raise_secAct (r : FaultRecord) (s : State) : (raise r s).secAct = s.secAct := rfl
@[simp] theorem raise_tdata (r : FaultRecord) (s : State) : (raise r s).tdata = s.tdata := rfl
@[simp] theorem raise_fault (r : FaultRecord) (s : State) : (raise r s).fault = some r := rfl
@[simp] theorem raise_refused (r : FaultRecord) (s : State) : (raise r s).refused = s.refused := rfl
@[simp] theorem raise_started (r : FaultRecord) (s : State) : (raise r s).started = s.started := rfl
@[simp] theorem raise_ops (r : FaultRecord) (s : State) : (raise r s).ops = s.ops := rfl

@[simp] theorem refuse_cfg (r : RefusalReason) (s : State) : (refuse r s).cfg = s.cfg := rfl
@[simp] theorem refuse_idx (r : RefusalReason) (s : State) : (refuse r s).idx = s.idx := rfl
@[simp] theorem refuse_smp (r : RefusalReason) (s : State) : (refuse r s).smp = s.smp := rfl
@[simp] theorem refuse_cnt (r : RefusalReason) (s : State) : (refuse r s).cnt = s.cnt := rfl
@[simp] theorem refuse_pend (r : RefusalReason) (s : State) : (refuse r s).pend = s.pend := rfl
@[simp] theorem refuse_priBuf (r : RefusalReason) (s : State) : (refuse r s).priBuf = s.priBuf := rfl
@[simp] theorem refuse_secBuf (r : RefusalReason) (s : State) : (refuse r s).secBuf = s.secBuf := rfl
@[simp] theorem refuse_creq (r : RefusalReason) (s : State) : (refuse r s).creq = s.creq := rfl
@[simp] theorem refuse_priAct (r : RefusalReason) (s : State) : (refuse r s).priAct = s.priAct := rfl
@[simp] theorem refuse_secAct (r : RefusalReason) (s : State) : (refuse r s).secAct = s.secAct := rfl
@[simp] theorem refuse_tdata (r : RefusalReason) (s : State) : (refuse r s).tdata = s.tdata := rfl
@[simp] theorem refuse_fault (r : RefusalReason) (s : State) : (refuse r s).fault = s.fault := rfl
@[simp] theorem refuse_refused (r : RefusalReason) (s : State) : (refuse r s).refused = some r := rfl
@[simp] theorem refuse_started (r : RefusalReason) (s : State) : (refuse r s).started = s.started := rfl
@[simp] theorem refuse_ops (r : RefusalReason) (s : State) : (refuse r s).ops = s.ops := rfl

@[simp] theorem issueOperation_cfg (w : Word) (s : State) : (issueOperation w s).cfg = s.cfg := rfl
@[simp] theorem issueOperation_idx (w : Word) (s : State) : (issueOperation w s).idx = s.idx := rfl
@[simp] theorem issueOperation_smp (w : Word) (s : State) : (issueOperation w s).smp = s.smp := rfl
@[simp] theorem issueOperation_cnt (w : Word) (s : State) : (issueOperation w s).cnt = s.cnt := rfl
@[simp] theorem issueOperation_pend (w : Word) (s : State) : (issueOperation w s).pend = s.pend := rfl
@[simp] theorem issueOperation_priBuf (w : Word) (s : State) : (issueOperation w s).priBuf = s.priBuf := rfl
@[simp] theorem issueOperation_secBuf (w : Word) (s : State) : (issueOperation w s).secBuf = s.secBuf := rfl
@[simp] theorem issueOperation_creq (w : Word) (s : State) : (issueOperation w s).creq = s.creq := rfl
@[simp] theorem issueOperation_priAct (w : Word) (s : State) : (issueOperation w s).priAct = s.priAct := rfl
@[simp] theorem issueOperation_secAct (w : Word) (s : State) : (issueOperation w s).secAct = s.secAct := rfl
@[simp] theorem issueOperation_tdata (w : Word) (s : State) : (issueOperation w s).tdata = s.tdata := rfl
@[simp] theorem issueOperation_fault (w : Word) (s : State) : (issueOperation w s).fault = s.fault := rfl
@[simp] theorem issueOperation_refused (w : Word) (s : State) : (issueOperation w s).refused = s.refused := rfl
@[simp] theorem issueOperation_started (w : Word) (s : State) : (issueOperation w s).started = s.started := rfl
@[simp] theorem issueOperation_ops (w : Word) (s : State) : (issueOperation w s).ops = w :: s.ops := rfl

@[simp] theorem commitPair_cfg (p q : Sample) (s : State) : (commitPair p q s).cfg = s.cfg := rfl
@[simp] theorem commitPair_idx (p q : Sample) (s : State) : (commitPair p q s).idx = s.idx := rfl
@[simp] theorem commitPair_smp (p q : Sample) (s : State) : (commitPair p q s).smp = s.smp := rfl
@[simp] theorem commitPair_cnt (p q : Sample) (s : State) : (commitPair p q s).cnt = s.cnt := rfl
@[simp] theorem commitPair_pend (p q : Sample) (s : State) : (commitPair p q s).pend = s.pend := rfl
@[simp] theorem commitPair_priBuf (p q : Sample) (s : State) : (commitPair p q s).priBuf = s.priBuf := rfl
@[simp] theorem commitPair_secBuf (p q : Sample) (s : State) : (commitPair p q s).secBuf = s.secBuf := rfl
@[simp] theorem commitPair_creq (p q : Sample) (s : State) : (commitPair p q s).creq = false := rfl
@[simp] theorem commitPair_priAct (p q : Sample) (s : State) : (commitPair p q s).priAct = some p := rfl
@[simp] theorem commitPair_secAct (p q : Sample) (s : State) : (commitPair p q s).secAct = some q := rfl
@[simp] theorem commitPair_tdata (p q : Sample) (s : State) : (commitPair p q s).tdata = s.tdata := rfl
@[simp] theorem commitPair_fault (p q : Sample) (s : State) : (commitPair p q s).fault = s.fault := rfl
@[simp] theorem commitPair_refused (p q : Sample) (s : State) : (commitPair p q s).refused = s.refused := rfl
@[simp] theorem commitPair_started (p q : Sample) (s : State) : (commitPair p q s).started = s.started := rfl
@[simp] theorem commitPair_ops (p q : Sample) (s : State) : (commitPair p q s).ops = s.ops := rfl

@[simp] theorem dutyUpdate_cfg (s : State) : (dutyUpdate s).cfg = s.cfg := rfl
@[simp] theorem dutyUpdate_idx (s : State) : (dutyUpdate s).idx = s.idx := rfl
@[simp] theorem dutyUpdate_smp (s : State) : (dutyUpdate s).smp = s.smp := rfl
@[simp] theorem dutyUpdate_cnt (s : State) : (dutyUpdate s).cnt = s.cnt := rfl
@[simp] theorem dutyUpdate_pend (s : State) : (dutyUpdate s).pend = s.pend := rfl
@[simp] theorem dutyUpdate_priBuf (s : State) : (dutyUpdate s).priBuf = some s.smp := rfl
@[simp] theorem dutyUpdate_secBuf (s : State) : (dutyUpdate s).secBuf = some (secondary s.cfg.law s.smp) := rfl
@[simp] theorem dutyUpdate_creq (s : State) : (dutyUpdate s).creq = true := rfl
@[simp] theorem dutyUpdate_priAct (s : State) : (dutyUpdate s).priAct = s.priAct := rfl
@[simp] theorem dutyUpdate_secAct (s : State) : (dutyUpdate s).secAct = s.secAct := rfl
@[simp] theorem dutyUpdate_tdata (s : State) : (dutyUpdate s).tdata = s.tdata := rfl
@[simp] theorem dutyUpdate_fault (s : State) : (dutyUpdate s).fault = s.fault := rfl
@[simp] theorem dutyUpdate_refused (s : State) : (dutyUpdate s).refused = s.refused := rfl
@[simp] theorem dutyUpdate_started (s : State) : (dutyUpdate s).started = s.started := rfl
@[simp] theorem dutyUpdate_ops (s : State) : (dutyUpdate s).ops = s.ops := rfl

@[simp] theorem advanceIndex_cfg (s : State) : (advanceIndex s).cfg = s.cfg := rfl
@[simp] theorem advanceIndex_idx (s : State) : (advanceIndex s).idx = nextIndex s.cfg s.idx := rfl
@[simp] theorem advanceIndex_smp (s : State) : (advanceIndex s).smp = s.smp := rfl
@[simp] theorem advanceIndex_cnt (s : State) : (advanceIndex s).cnt = s.cnt := rfl
@[simp] theorem advanceIndex_pend (s : State) : (advanceIndex s).pend = s.pend := rfl
@[simp] theorem advanceIndex_priBuf (s : State) : (advanceIndex s).priBuf = s.priBuf := rfl
@[simp] theorem advanceIndex_secBuf (s : State) : (advanceIndex s).secBuf = s.secBuf := rfl
@[simp] theorem advanceIndex_creq (s : State) : (advanceIndex s).creq = s.creq := rfl
@[simp] theorem advanceIndex_priAct (s : State) : (advanceIndex s).priAct = s.priAct := rfl
@[simp] theorem advanceIndex_secAct (s : State) : (advanceIndex s).secAct = s.secAct := rfl
@[simp] theorem advanceIndex_tdata (s : State) : (advanceIndex s).tdata = s.tdata := rfl
@[simp] theorem advanceIndex_fault (s : State) : (advanceIndex s).fault = s.fault := rfl
@[simp] theorem advanceIndex_refused (s : State) : (advanceIndex s).refused = s.refused := rfl
@[simp] theorem advanceIndex_started (s : State) : (advanceIndex s).started = s.started := rfl
@[simp] theorem advanceIndex_ops (s : State) : (advanceIndex s).ops = s.ops := rfl

@[simp] theorem latchData_cfg (v : Sample) (s : State) : (latchData v s).cfg = s.cfg := rfl
@[simp] theorem latchData_idx (v : Sample) (s : State) : (latchData v s).idx = s.idx := rfl
@[simp] theorem latchData_smp (v : Sample) (s : State) : (latchData v s).smp = s.smp := rfl
@[simp] theorem latchData_cnt (v : Sample) (s : State) : (latchData v s).cnt = s.cnt := rfl
@[simp] theorem latchData_pend (v : Sample) (s : State) : (latchData v s).pend = s.pend := rfl
@[simp] theorem latchData_priBuf (v : Sample) (s : State) : (latchData v s).priBuf = s.priBuf := rfl
@[simp] theorem latchData_secBuf (v : Sample) (s : State) : (latchData v s).secBuf = s.secBuf := rfl
@[simp] theorem latchData_creq (v : Sample) (s : State) : (latchData v s).creq = s.creq := rfl
@[simp] theorem latchData_priAct (v : Sample) (s : State) : (latchData v s).priAct = s.priAct := rfl
@[simp] theorem latchData_secAct (v : Sample) (s : State) : (latchData v s).secAct = s.secAct := rfl
@[simp] theorem latchData_tdata (v : Sample) (s : State) : (latchData v s).tdata = some v := rfl
@[simp] theorem latchData_fault (v : Sample) (s : State) : (latchData v s).fault = s.fault := rfl
@[simp] theorem latchData_refused (v : Sample) (s : State) : (latchData v s).refused = s.refused := rfl
@[simp] theorem latchData_started (v : Sample) (s : State) : (latchData v s).started = s.started := rfl
@[simp] theorem latchData_ops (v : Sample) (s : State) : (latchData v s).ops = s.ops := rfl

@[simp] theorem startup_cfg (v : Sample) (s : State) : (startup v s).cfg = s.cfg := rfl
@[simp] theorem startup_idx (v : Sample) (s : State) : (startup v s).idx = 0 := rfl
@[simp] theorem startup_smp (v : Sample) (s : State) : (startup v s).smp = v := rfl
@[simp] theorem startup_cnt (v : Sample) (s : State) : (startup v s).cnt = s.cfg.R := rfl
@[simp] theorem startup_pend (v : Sample) (s : State) : (startup v s).pend = false := rfl
@[simp] theorem startup_priBuf (v : Sample) (s : State) : (startup v s).priBuf = none := rfl
@[simp] theorem startup_secBuf (v : Sample) (s : State) : (startup v s).secBuf = none := rfl
@[simp] theorem startup_creq (v : Sample) (s : State) : (startup v s).creq = false := rfl
@[simp] theorem startup_priAct (v : Sample) (s : State) : (startup v s).priAct = none := rfl
@[simp] theorem startup_secAct (v : Sample) (s : State) : (startup v s).secAct = none := rfl
@[simp] theorem startup_tdata (v : Sample) (s : State) : (startup v s).tdata = none := rfl
@[simp] theorem startup_fault (v : Sample) (s : State) : (startup v s).fault = none := rfl
@[simp] theorem startup_refused (v : Sample) (s : State) : (startup v s).refused = none := rfl
@[simp] theorem startup_started (v : Sample) (s : State) : (startup v s).started = true := rfl
@[simp] theorem startup_ops (v : Sample) (s : State) : (startup v s).ops = s.ops := rfl

end Sys2Proof.Machine
end

