-- ==== Sys2Proof/Laws/Ops.lean ====
section
/-! SUPPORT. What each shared operation can do, said once. -/

namespace Sys2Proof.Machine

/-! ### The table -/

theorem tableRead_eq_some {c : Config} {i : Nat} {v : Sample} :
    tableRead c i = some v ↔ i < c.L ∧ c.table[i]? = some v := by
  simp [tableRead]

theorem tableRead_eq_none_of_le {c : Config} {i : Nat} (h : c.L ≤ i) : tableRead c i = none := by
  simp [tableRead, Nat.not_lt.mpr h]

theorem tableRead_of_lt {c : Config} {i : Nat} (hc : c.entriesOk = true) (h : i < c.L) :
    ∃ v, tableRead c i = some v := by
  have hl : i < c.table.length := by simp only [Config.entriesOk, decide_eq_true_eq] at hc; omega
  exact ⟨c.table[i], tableRead_eq_some.mpr ⟨h, by simp [hl]⟩⟩

theorem nextIndex_lt {c : Config} (h : 0 < c.L) (i : Nat) : nextIndex c i < c.L := Nat.mod_lt _ h

/-! ### The configuration -/

theorem shapeOk_iff {c : Config} :
    c.shapeOk = true ↔ (c.L % 2 = 0 ∧ 2 ≤ c.L ∧ c.L ≤ 4096) ∧ (1 ≤ c.R ∧ c.R ≤ 2 ^ c.CW - 1) ∧
      c.L ≤ 2 ^ c.IW ∧ (c.SW = 8 ∧ c.DW = 8) ∧ c.table.length = c.L := by
  simp [Config.shapeOk, Config.lengthOk, Config.reloadOk, Config.indexWidthOk, Config.sampleWidthsOk,
    Config.entriesOk, and_assoc]

theorem entriesOk_of_shapeOk {c : Config} (h : c.shapeOk = true) : c.entriesOk = true := by
  simpa [Config.entriesOk] using (shapeOk_iff.mp h).2.2.2.2

theorem two_le_length_of_shapeOk {c : Config} (h : c.shapeOk = true) : 2 ≤ c.L := (shapeOk_iff.mp h).1.2.1

theorem symmetric_sum {c : Config} (h : c.symmetric = true) {i : Nat} (hi : i < c.L) :
    ∃ a b, c.table[i]? = some a ∧ c.table[(i + c.H) % c.L]? = some b ∧ a.toNat + b.toNat = 255 := by
  have := List.all_eq_true.mp h i (List.mem_range.mpr hi)
  split at this
  · exact ⟨_, _, ‹_›, ‹_›, by simpa using this⟩
  · cases this

/-! ### The marks -/

@[simp] theorem not_live_raise (r : FaultRecord) (s : State) : ¬ (raise r s).Live := fun h => nomatch h.1

@[simp] theorem not_live_refuse (r : RefusalReason) (s : State) : ¬ (refuse r s).Live := fun h => nomatch h.2

/-! ### The gate -/

theorem gate_eq_next {s t : State} {k : State → Host.Outcome State Fault Refusal} :
    gate s k = .next t ↔ s.Live ∧ k s = .next t := by
  unfold gate State.Live
  split <;> simp_all

theorem gate_of_live {s : State} (h : s.Live) (k : State → Host.Outcome State Fault Refusal) : gate s k = k s := by
  simp [gate, h.1, h.2]

theorem gate_of_fault {s : State} {r : FaultRecord} (h : s.fault = some r)
    (k : State → Host.Outcome State Fault Refusal) : gate s k = .fault (.halted r) := by
  simp [gate, h]

theorem gate_of_refused {s : State} {r : RefusalReason} (hf : s.fault = none) (h : s.refused = some r)
    (k : State → Host.Outcome State Fault Refusal) : gate s k = .refused (.halted r) := by
  simp [gate, hf, h]

theorem gateStarted_of_ready {s : State} (h : s.Ready) (k : State → Host.Outcome State Fault Refusal) :
    gateStarted s k = k s := by
  simp [gateStarted, gate_of_live h.1, h.2]

theorem gateStarted_of_not_started {s : State} (h : s.Live) (hs : s.started = false)
    (k : State → Host.Outcome State Fault Refusal) : gateStarted s k = .next (refuse .notStarted s) := by
  simp [gateStarted, gate_of_live h, hs]

theorem gateStarted_eq_next {s t : State} {k : State → Host.Outcome State Fault Refusal} :
    gateStarted s k = .next t ↔
      s.Live ∧ (s.started = true ∧ k s = .next t ∨ s.started = false ∧ t = refuse .notStarted s) := by
  unfold gateStarted
  rw [gate_eq_next]
  cases s.started <;> simp [eq_comm]

/-! ### The mode-controlled advance -/

/-- CNT after step 5. -/
abbrev newCnt (lf : Bool) (s : State) : Nat :=
  if lf then s.cnt else if s.cnt - 1 = 0 then s.cfg.R else s.cnt - 1

/-- IDX after steps 4 and 5. -/
abbrev newIdx (lf : Bool) (s : State) : Nat :=
  if lf = false ∧ s.cnt - 1 = 0 then nextIndex s.cfg (nextIndex s.cfg s.idx) else nextIndex s.cfg s.idx

theorem correct_advanceIndex (lf : Bool) (s : State) :
    correct lf (advanceIndex s) = { s with idx := newIdx lf s, cnt := newCnt lf s } := by
  cases lf
  · by_cases h : s.cnt - 1 = 0 <;> simp [correct, correctionActive, advanceIndex, newIdx, newCnt, h]
  · simp [correct, correctionActive, advanceIndex, newIdx, newCnt]

theorem advance_eq (lf : Bool) (s : State) :
    advance lf s =
      (tableRead s.cfg (newIdx lf s)).map fun v => { s with idx := newIdx lf s, cnt := newCnt lf s, smp := v } := by
  unfold advance reloadSample
  rw [correct_advanceIndex]
  dsimp only
  cases tableRead s.cfg (newIdx lf s) <;> rfl

theorem newIdx_lt {s : State} (h : 0 < s.cfg.L) (lf : Bool) : newIdx lf s < s.cfg.L := by
  unfold newIdx
  split <;> exact nextIndex_lt h _

theorem generatorInRange_iff {s : State} :
    generatorInRange s = true ↔ s.idx < s.cfg.L ∧ 1 ≤ s.cnt ∧ s.cnt ≤ s.cfg.R := by
  simp [generatorInRange, and_assoc]

/-! ### The run's operations and the marks -/

@[simp] theorem takeOperation_nil {s : State} (h : s.ops = []) : takeOperation s = none := by
  simp [takeOperation, h]

@[simp] theorem takeOperation_cons {s : State} {w : Word} {rest : List Word} (h : s.ops = w :: rest) :
    takeOperation s = some (w, { s with ops := rest }) := by
  simp [takeOperation, h]

theorem takeOperation_issueOperation (w : Word) (s : State) : takeOperation (issueOperation w s) = some (w, s) := rfl

theorem invCheck_iff {s : State} : invCheck s = true ↔ s.Inv := by
  simp only [invCheck, State.Inv, Bool.and_eq_true, decide_eq_true_eq, Bool.or_eq_true, Bool.not_eq_true', and_assoc,
    Option.isSome_iff_ne_none]
  cases s.creq <;> simp

/-! ### The table keeps its form (log 8) -/

theorem memory_wf_of_cfg_eq {s t : State} (h : t.cfg = s.cfg) : Memory.wf t = Memory.wf s := by
  simp [Memory.wf, h]

theorem reset_memory_wf : Memory.wf State.reset = true := by
  simp [Memory.wf, State.reset, Config.reference, Config.referenceTable]

end Sys2Proof.Machine
end

