-- ==== Sys2Proof/Laws/Exec.lean ====
section
/-! SUPPORT. What each meaning can do: if it answers a next state, one of these cases holds. -/

namespace Sys2Proof.Machine

theorem execReset_next {s t : State} (h : execReset s = .next t) :
    s.Live ∧
      (s.started = true ∧ t = refuse .lateReset s ∨
        s.started = false ∧ s.cfg.shapeOk = true ∧ (∃ v, tableRead s.cfg 0 = some v ∧ t = startup v s) ∨
        s.started = false ∧ s.cfg.shapeOk = false ∧ t = refuse .badConfig s) := by
  unfold execReset at h
  obtain ⟨hl, h⟩ := gate_eq_next.mp h
  refine ⟨hl, ?_⟩
  cases hs : s.started
  · cases hc : s.cfg.shapeOk
    · simp [hs, hc] at h
      simp [h]
    · obtain ⟨v, hv⟩ := tableRead_of_lt (entriesOk_of_shapeOk hc)
        (Nat.lt_of_lt_of_le Nat.zero_lt_two (two_le_length_of_shapeOk hc))
      simp [hs, hc, hv] at h
      simp [hv, h]
  · simp [hs] at h
    simp [h]

theorem execBoundary_next {s t : State} (h : execBoundary s = .next t) :
    s.Live ∧
      (s.started = false ∧ t = refuse .notStarted s ∨
        s.started = true ∧ s.pend = true ∧ t = raise .deadline s ∨
        s.started = true ∧ s.pend = false ∧ s.creq = false ∧ t = signalCycle s ∨
        s.started = true ∧ s.pend = false ∧ s.creq = true ∧
          (∃ p q, s.priBuf = some p ∧ s.secBuf = some q ∧ t = signalCycle (commitPair p q s)) ∨
        s.started = true ∧ s.pend = false ∧ s.creq = true ∧ (s.priBuf = none ∨ s.secBuf = none) ∧
          t = refuse .badStart s) := by
  unfold execBoundary at h
  obtain ⟨hl, ⟨hs, h⟩ | ⟨hs, h⟩⟩ := gateStarted_eq_next.mp h
  · refine ⟨hl, ?_⟩
    cases hp : s.pend
    · cases hc : s.creq
      · simp [hp, hc] at h
        simp [hs, h]
      · cases hb : s.priBuf <;> cases hq : s.secBuf <;> simp [hp, hc, hb, hq] at h <;> simp [hs, h]
    · simp [hp] at h
      simp [hs, h]
  · exact ⟨hl, .inl ⟨hs, h⟩⟩

theorem execCycle_next {lf : Bool} {s t : State} (h : execCycle lf s = .next t) :
    s.Live ∧
      (s.started = false ∧ t = refuse .notStarted s ∨
        s.started = true ∧ s.pend = false ∧ t = refuse .notPending s ∨
        s.started = true ∧ s.pend = true ∧ generatorInRange s = false ∧ t = refuse .badStart s ∨
        s.started = true ∧ s.pend = true ∧ generatorInRange s = true ∧
          tableRead s.cfg (newIdx lf s) = none ∧ t = refuse .badConfig s ∨
        s.started = true ∧ s.pend = true ∧ generatorInRange s = true ∧
          ∃ v, tableRead s.cfg (newIdx lf s) = some v ∧
            t = { s with
              priBuf := some s.smp, secBuf := some (secondary s.cfg.law s.smp), creq := true,
              idx := newIdx lf s, cnt := newCnt lf s, smp := v, pend := false }) := by
  unfold execCycle at h
  obtain ⟨hl, ⟨hs, h⟩ | ⟨hs, h⟩⟩ := gateStarted_eq_next.mp h
  · refine ⟨hl, ?_⟩
    cases hp : s.pend
    · simp [hp] at h
      simp [hs, h]
    · cases hg : generatorInRange s
      · simp [hp, hg] at h
        simp [hs, h]
      · simp only [hp, hg, if_true, advance_eq] at h
        cases hr : tableRead s.cfg (newIdx lf s) with
        | none =>
          have hr' : tableRead (dutyUpdate s).cfg (newIdx lf (dutyUpdate s)) = none := hr
          rw [hr'] at h
          cases h
          exact .inr (.inr (.inr (.inl ⟨hs, rfl, rfl, rfl, rfl⟩)))
        | some v =>
          have hr' : tableRead (dutyUpdate s).cfg (newIdx lf (dutyUpdate s)) = some v := hr
          rw [hr'] at h
          cases h
          exact .inr (.inr (.inr (.inr ⟨hs, rfl, rfl, v, rfl, rfl⟩)))
  · exact ⟨hl, .inl ⟨hs, h⟩⟩

theorem execLookup_next {idx : TableIndex} {s t : State} (h : execLookup idx s = .next t) :
    s.Live ∧
      (s.started = false ∧ t = refuse .notStarted s ∨
        s.started = true ∧ s.cfg.L ≤ lookupIndex idx ∧ t = raise (.index idx) s ∨
        s.started = true ∧ lookupIndex idx < s.cfg.L ∧
          (∃ v, tableRead s.cfg (lookupIndex idx) = some v ∧ t = latchData v s) ∨
        s.started = true ∧ lookupIndex idx < s.cfg.L ∧ tableRead s.cfg (lookupIndex idx) = none ∧
          t = refuse .badConfig s) := by
  unfold execLookup at h
  obtain ⟨hl, ⟨hs, h⟩ | ⟨hs, h⟩⟩ := gateStarted_eq_next.mp h
  · refine ⟨hl, ?_⟩
    by_cases hi : s.cfg.L ≤ lookupIndex idx
    · simp [hi] at h
      simp [hs, hi, h]
    · have hi' : lookupIndex idx < s.cfg.L := Nat.lt_of_not_le hi
      cases hr : tableRead s.cfg (lookupIndex idx) <;> simp [hi, hr] at h <;> simp [hs, hi, hi', h]
  · exact ⟨hl, .inl ⟨hs, h⟩⟩

end Sys2Proof.Machine
end

