-- ==== Sys2Proof/Laws/PerInstr.lean ====
section
/-! SUPPORT. Statements made of every instruction as syntax, one lemma a constructor. -/

/-- The encoding of the instruction selects the instruction's row of the opcode map, and that row carries its mnemonic
(30_encoding.md R60). -/
def Sys2Proof.Laws.EncodingSelectsRow.Statement (i : Sys2Proof.Instr) : Prop :=
  i.row.selects (Sys2Proof.encode i) = true ∧ i.row ∈ Sys2Proof.opcodeMap ∧ i.row.mnemonic = i.mnemonic

theorem Sys2Proof.Laws.EncodingSelectsRow.reset :
    Sys2Proof.Laws.EncodingSelectsRow.Statement .reset := by
  unfold Sys2Proof.Laws.EncodingSelectsRow.Statement; decide

theorem Sys2Proof.Laws.EncodingSelectsRow.boundary :
    Sys2Proof.Laws.EncodingSelectsRow.Statement .boundary := by
  unfold Sys2Proof.Laws.EncodingSelectsRow.Statement; decide

theorem Sys2Proof.Laws.EncodingSelectsRow.cycle (lf : Bool) :
    Sys2Proof.Laws.EncodingSelectsRow.Statement (.cycle lf) := by
  unfold Sys2Proof.Laws.EncodingSelectsRow.Statement; cases lf <;> decide

theorem Sys2Proof.Laws.EncodingSelectsRow.lookup (idx : Sys2Proof.TableIndex) :
    Sys2Proof.Laws.EncodingSelectsRow.Statement (.lookup idx) := by
  refine ⟨?_, by simp [Sys2Proof.Instr.row, Sys2Proof.opcodeMap], rfl⟩
  have h : (0x4000#16 ||| idx.setWidth 16) &&& 0xF000#16 = 0x4000#16 := by
    have hz : ∀ j : Fin 12, (0xF000#16).getLsbD j.val = false ∧ (0x4000#16).getLsbD j.val = false := by decide
    have hm : ∀ j : Fin 16, ((0x4000#16).getLsbD j.val && (0xF000#16).getLsbD j.val) = (0x4000#16).getLsbD j.val := by decide
    apply BitVec.eq_of_getLsbD_eq
    intro i hi
    rw [BitVec.getLsbD_and, BitVec.getLsbD_or, BitVec.getLsbD_setWidth]
    rcases Nat.lt_or_ge i 12 with hlt | hge
    · rw [(hz ⟨i, hlt⟩).1, (hz ⟨i, hlt⟩).2, Bool.and_false]
    · rw [BitVec.getLsbD_of_ge idx i hge, Bool.and_false, Bool.or_false, hm ⟨i, hi⟩]
  simp [Sys2Proof.OpcodeRow.selects, Sys2Proof.encode, Sys2Proof.Instr.row, h]
end

