-- ==== Sys2Proof/Tests/Slice0.lean ====
section
/-! SUPPORT. The model's own tests. Expected values come from spec/95_test_vectors.md (W, V and P numbers), from
30_encoding.md R70, or from words written out from R58 to R64. Then, for each statement with hypotheses, a concrete state
and operands that meet all of them together. -/

namespace Sys2Proof.Tests

open Sys2Proof Sys2Proof.Machine

/-! ### Decoding (V1, R70), words written bit by bit -/

theorem test_decode_reset : decode 0b0001000000000000 = .instr .reset := by decide
theorem test_decode_boundary : decode 0b0010000000000000 = .instr .boundary := by decide
theorem test_decode_cycle_high : decode 0b0011000000000000 = .instr (.cycle false) := by decide
theorem test_decode_cycle_low : decode 0b0011000000000001 = .instr (.cycle true) := by decide
theorem test_decode_lookup_first : decode 0b0100000000000000 = .instr (.lookup 0) := by decide
theorem test_decode_lookup_385 : decode 0b0100000110000001 = .instr (.lookup 385) := by decide
theorem test_decode_lookup_last : decode 0b0100111111111111 = .instr (.lookup 4095) := by decide
theorem test_reserved_reset_argument : decode 0x1800 = .reserved .noOperandFormat := by decide
theorem test_reserved_boundary_argument : decode 0x2001 = .reserved .noOperandFormat := by decide
theorem test_reserved_cycle_bit1 : decode 0x3002 = .reserved .cycleFormat := by decide
theorem test_reserved_cycle_bit11 : decode 0x3801 = .reserved .cycleFormat := by decide
theorem test_reserved_opcodes :
    decode 0x0000 = .reserved .opcode ∧ decode 0x0FFF = .reserved .opcode ∧ decode 0x5000 = .reserved .opcode ∧
      decode 0xF123 = .reserved .opcode := by decide
theorem test_encode_lookup_193 : encode (.lookup 193) = 0x40C1 := by decide
theorem test_decodeTableWord : decodeTableWord 16 0x4182 = some (.lookup 386) := by decide

/-! ### The assembler and its check (R68, R69) -/

theorem test_wellFormed_refuses_cycle_2 : (AsmLine.cycle 2).wellFormed = false := by decide
theorem test_wellFormed_refuses_lookup_4096 : (AsmLine.lookup 4096).wellFormed = false := by decide
theorem test_wellFormed_refuses_tick_2 : (AsmLine.tick 2).wellFormed = false := by decide
theorem test_wellFormed_refuses_run_2 : (AsmLine.run 3 2).wellFormed = false := by decide
theorem test_wellFormed_accepts_edges :
    (AsmLine.cycle 1).wellFormed = true ∧ (AsmLine.lookup 4095).wellFormed = true := by decide
theorem test_assemble_run : assemble (.run 2 1) = some [0x2000, 0x3001, 0x2000, 0x3001] := by decide
theorem test_assemble_rejects : assemble (.lookup 4096) = none ∧ assemble (.cycle 2) = none := by decide
theorem test_parse_lookup :
    parseLine ['l', 'o', 'o', 'k', 'u', 'p', ' ', '0', 'x', 'C', '1', ' ', ';', ' ', 'x'] =
      some (some (.lookup 193)) := by decide
theorem test_parse_run :
    parseLine ['r', 'u', 'n', ' ', '7', ',', ' ', '1'] = some (some (.run 7 1)) := by decide
theorem test_parse_rejects :
    parseLine ['c', 'y', 'c', 'l', 'e', ' ', '2'] = none ∧ parseLine ['R', 'E', 'S', 'E', 'T'] = none := by decide

/-! ### The configuration check: TOY of 95_test_vectors.md section 2, and each constraint of R9 failed alone -/

/-- The test configuration TOY: L = 6, R = 2. -/
def toy : Config where
  L := 6
  R := 2
  SW := 8
  DW := 8
  IW := 9
  CW := 8
  table := [128, 238, 238, 127, 17, 17]
  law := .onesComplement
  fLow := 50
  fHigh := 75
  cycleLen := 1

theorem test_toy_ok : toy.ok = true := by decide
theorem test_config_odd_length : ({ toy with L := 5, table := [128, 238, 238, 127, 17] } : Config).lengthOk = false := by
  decide
theorem test_config_zero_length : ({ toy with L := 0, table := [] } : Config).ok = false := by decide
theorem test_config_long_table : ({ toy with L := 4098 } : Config).lengthOk = false := by decide
theorem test_config_zero_reload : ({ toy with R := 0 } : Config).ok = false := by decide
theorem test_config_wide_reload : ({ toy with R := 256 } : Config).ok = false := by decide
theorem test_config_asymmetric : ({ toy with table := [128, 238, 238, 127, 17, 18] } : Config).ok = false := by decide
theorem test_config_narrow_index : ({ toy with IW := 2 } : Config).ok = false := by decide
theorem test_config_sample_width : ({ toy with SW := 9 } : Config).ok = false := by decide
theorem test_config_duration_width : ({ toy with DW := 7 } : Config).ok = false := by decide
theorem test_config_missing_entry : ({ toy with table := [128, 238, 238, 127, 17] } : Config).ok = false := by decide

/-! ### Single steps -/

/-- A started TOY state as RESET leaves it (V7.1), with no operation waiting. -/
def toyStart : State where
  cfg := toy
  idx := 0
  smp := 128
  cnt := 2
  pend := false
  priBuf := none
  secBuf := none
  creq := false
  priAct := none
  secAct := none
  tdata := none
  fault := none
  refused := none
  started := true
  ops := []

/-- An invocation is owed. -/
def toyPend : State := { toyStart with pend := true }

/-- An invocation is owed at index 1 with the counter at 1 (V5.2). -/
def toySkip : State := { toyStart with idx := 1, smp := 238, cnt := 1, pend := true }

/-- A commit is requested (V6.2). -/
def toyCommit : State := { toyStart with creq := true, priBuf := some 128, secBuf := some 127 }

/-- Before RESET, with arbitrary contents. -/
def toyOff : State := { toyStart with idx := 9, smp := 3, cnt := 0, pend := true, tdata := some 7, started := false }

/-- The next state of an outcome. -/
def nextOf : Host.Outcome State Fault Refusal → Option State
  | .next t => some t
  | _ => none

/-- V5.1. -/
theorem test_cycle_low :
    nextOf (exec (.cycle true) toyPend) =
      some { toyStart with priBuf := some 128, secBuf := some 127, creq := true, idx := 1, smp := 238 } := by decide

/-- V5.2: the skip drops `T[2]`. -/
theorem test_cycle_skip :
    nextOf (exec (.cycle false) toySkip) =
      some { toyStart with priBuf := some 238, secBuf := some 17, creq := true, idx := 3, cnt := 2, smp := 127 } := by
  decide

/-- V6.2. -/
theorem test_boundary_commit :
    nextOf (exec .boundary toyCommit) =
      some { toyCommit with priAct := some 128, secAct := some 127, creq := false, pend := true } := by decide

/-- V6.3. -/
theorem test_boundary_deadline :
    nextOf (exec .boundary { toyCommit with pend := true }) =
      some { toyCommit with pend := true, fault := some .deadline } := by decide

/-- V2: `lookup 5`. -/
theorem test_lookup_last : nextOf (exec (.lookup 5) toyStart) = some { toyStart with tdata := some 17 } := by decide

/-- V2: `lookup 6` faults; TDATA is unchanged. -/
theorem test_lookup_out_of_range :
    nextOf (exec (.lookup 6) { toyStart with tdata := some 1 }) =
      some { toyStart with tdata := some 1, fault := some (.index 6) } := by decide

/-- V7.1. -/
theorem test_reset : nextOf (exec .reset toyOff) = some toyStart := by decide

/-- V7.7: the reserved word after a fault takes no step and records no refusal. -/
theorem test_reserved_after_fault :
    nextOf (step { toyStart with fault := some (.index 6), ops := [0x0000] }) = none := by decide

/-- V4, SMP = 238, under both laws. -/
theorem test_secondary :
    secondary .onesComplement 238 = 17 ∧ secondary .twosNegation 238 = 18 ∧ secondary .twosNegation 0 = 0 := by decide

/-- On the reference design each table row's word runs as the first operation after reset: BOUNDARY and LOOKUP complete,
CYCLE and RESET are marked with the reasons V7.4 and V7.5 give. -/
theorem test_first_operation_after_reset :
    (nextOf (step (State.reset.withFetchWord 16 0x2000))).map (·.pend) = some true ∧
      (nextOf (step (State.reset.withFetchWord 16 0x4000))).map (·.fault) = some none ∧
      (nextOf (step (State.reset.withFetchWord 16 0x3001))).map (·.refused) = some (some .notPending) ∧
      (nextOf (step (State.reset.withFetchWord 16 0x1000))).map (·.refused) = some (some .lateReset) := by decide

/-! ### Witnesses: the hypotheses of each statement, met together -/

/-- The premises most statements share: a ready TOY state of an admitted run, in each phase of a hardware cycle. -/
theorem toyStart_admitted : toyStart.Ready ∧ toyStart.cfg.ok = true ∧ toyStart.Inv := by decide
theorem toyPend_admitted : toyPend.Ready ∧ toyPend.cfg.ok = true ∧ toyPend.Inv := by decide
theorem toySkip_admitted : toySkip.Ready ∧ toySkip.cfg.ok = true ∧ toySkip.Inv := by decide
theorem toyCommit_admitted : toyCommit.Ready ∧ toyCommit.cfg.ok = true ∧ toyCommit.Inv := by decide

theorem witness_EncodeOfDecodeIsTheWord :
    decode 0x1000 = .instr .reset ∧ decode 0x3001 = .instr (.cycle true) ∧ decode 0x4FFF = .instr (.lookup 4095) := by
  decide

theorem witness_OpcodeMapAgreesWithTheDecoder :
    (⟨"CYCLE", 0x3000, 0xFFFE⟩ : OpcodeRow) ∈ opcodeMap ∧ 0x3001#16 &&& 0xFFFE = 0x3000 := by decide

theorem witness_AssemblerExpandsAndRejects : (1 ≤ 1 ∧ 1 < 2) ∧ (4095 ≤ 4095 ∧ 4095 < 4096) := by decide

theorem witness_StepPerformsTheDecodedOperation :
    ({ toyStart with ops := [0x2000, 0x3001] } : State).ops = 0x2000 :: [0x3001] ∧ decode 0x2000 = .instr .boundary ∧
      decodeTableWord 16 0x3001 = some (.cycle true) := by decide

theorem witness_ReservedWordIsRefused :
    ({ toyStart with ops := [0x3002] } : State).Live ∧ ({ toyStart with ops := [0x3002] } : State).ops = 0x3002 :: [] ∧
      decode 0x3002 = .reserved .cycleFormat := by decide

theorem witness_HaltedStateTakesNoStep :
    ({ toyStart with fault := some .deadline } : State).fault = some .deadline ∧
      (({ toyStart with refused := some .reserved } : State).fault = none ∧
        ({ toyStart with refused := some .reserved } : State).refused = some .reserved) ∧
      ¬ ({ toyStart with fault := some .deadline } : State).Live := by decide

theorem witness_NoOperationMeansNoStep : toyStart.ops = [] := by decide

theorem witness_GateChecksStarted :
    (toyOff.Live ∧ toyOff.started = false) ∧ (toyStart.Live ∧ toyStart.started = true) := by decide

/-- The three clauses of the start check: a bad configuration; a bad start by each part of INV and by a recorded fault; an
admitted state, started or not. -/
theorem witness_StartCheckRefusesBadConfigurationsAndStarts :
    (startRun { toyStart with cfg := { toy with R := 0 } }).refused = some .badConfig ∧
      (startRun { toyStart with cnt := 3 }).refused = some .badStart ∧
      (startRun { toyStart with smp := 127 }).refused = some .badStart ∧
      (startRun { toyStart with idx := 6 }).refused = some .badStart ∧
      (startRun { toyStart with creq := true }).refused = some .badStart ∧
      (({ toyStart with fault := some .deadline } : State).refused = none ∧
        (startRun { toyStart with fault := some .deadline }).refused = some .badStart) ∧
      startRun toyStart = toyStart ∧ startRun toyOff = toyOff := by decide

theorem witness_TableEntriesComeInComplementaryPairs : toy.ok = true ∧ 5 < toy.L := by decide

theorem witness_TableHasAValueExactlyBelowItsLength : toy.ok = true := by decide

theorem witness_ResetInitialisesEveryField : toyOff.Live ∧ toyOff.started = false ∧ toyOff.cfg.ok = true := by decide

theorem witness_ResetStateIsWhatResetEstablishes :
    State.Live { toyOff with cfg := Config.reference } ∧
      ({ toyOff with cfg := Config.reference } : State).started = false ∧
      ({ toyOff with cfg := Config.reference } : State).cfg = Config.reference ∧
      ({ toyOff with cfg := Config.reference } : State).ops = [] := ⟨⟨rfl, rfl⟩, rfl, rfl, rfl⟩

theorem witness_ResetForgetsWhatWasThere : toy.ok = true ∧ toyOff ≠ toyStart := by decide

theorem witness_LookupReadsTheEntryOrFaults :
    toyStart.Ready ∧ toyStart.cfg.ok = true ∧ (5 : TableIndex).toNat < toyStart.cfg.L ∧
      toyStart.cfg.L ≤ (6 : TableIndex).toNat := by decide

theorem witness_LookupIsIdempotent : ∃ s t, exec (.lookup 5) s = .next t ∧ t.Live := ⟨toyStart, _, rfl, rfl, rfl⟩

theorem witness_LookupCommutesWithCycle :
    toyPend.Ready ∧ toyPend.cfg.ok = true ∧ toyPend.Inv ∧ toyPend.pend = true ∧ (0 : TableIndex).toNat < toyPend.cfg.L := by
  decide

theorem witness_CyclePerformsTheSevenSteps :
    (toySkip.Ready ∧ toySkip.cfg.ok = true ∧ toySkip.Inv ∧ toySkip.pend = true) ∧
      toyStart.Ready ∧ toyStart.cfg.ok = true ∧ toyStart.Inv ∧ toyStart.pend = false := by decide

theorem witness_CycleAlwaysCompletes :
    toySkip.Ready ∧ toySkip.pend = true ∧ toySkip.cfg.ok = true ∧ toySkip.Inv := by decide

/-- A CYCLE that completes: the premise of the statements about its result. -/
theorem witness_cycle_result : ∃ s t, exec (.cycle false) s = .next t ∧ t.Live ∧ s.cfg.ok = true ∧ s.Inv :=
  ⟨toySkip, _, rfl, ⟨rfl, rfl⟩, by decide, by decide⟩

theorem witness_CycleWritesTheCachedSampleThenReloads :
    toyPend.Ready ∧ toyPend.pend = true ∧ toyPend.cfg.ok = true ∧ toyPend.Inv := by decide

theorem witness_HandlerReturnAllowsTheNextBoundary : ∃ s t, exec (.cycle true) s = .next t ∧ t.Live :=
  ⟨toyPend, _, rfl, rfl, rfl⟩

/-- The three clauses of Advance: LF = 1, LF = 0 above 1, LF = 0 at 1. -/
theorem witness_DutyUpdateAndAdvance :
    (toyPend.cfg.ok = true ∧ toyPend.Inv ∧ 1 < toyPend.cnt) ∧ toySkip.cfg.ok = true ∧ toySkip.Inv ∧ toySkip.cnt = 1 := by
  decide

/-- At the last index, where the advance wraps. -/
theorem witness_IndexAdvanceWraps : State.Inv { toyStart with idx := 5, smp := 17 } := by decide

/-- Both laws' clauses. -/
theorem witness_CycleObeysTheComplementLaw :
    (∃ s t, exec (.cycle true) s = .next t ∧ t.Live ∧ s.cfg.law = .onesComplement) ∧
      ∃ s t, exec (.cycle true) s = .next t ∧ t.Live ∧ s.cfg.law = .twosNegation :=
  ⟨⟨toyPend, _, rfl, ⟨rfl, rfl⟩, rfl⟩, { toyPend with cfg := { toy with law := .twosNegation } }, _, rfl, ⟨rfl, rfl⟩, rfl⟩

theorem witness_SecondaryIsTheSampleHalfAPeriodAway :
    (∃ s t, s.cfg.ok = true ∧ s.Inv ∧ exec (.cycle true) s = .next t ∧ t.Live ∧ s.cfg.law = .onesComplement) ∧
      ∃ s t, s.cfg.ok = true ∧ s.Inv ∧ exec (.cycle true) s = .next t ∧ t.Live ∧ s.cfg.law = .twosNegation :=
  ⟨⟨toyPend, _, by decide, by decide, rfl, ⟨rfl, rfl⟩, rfl⟩,
    { toyPend with cfg := { toy with law := .twosNegation } }, _, by decide, by decide, rfl, ⟨rfl, rfl⟩, rfl⟩

theorem witness_BoundaryCommitsThenSignals :
    (toyCommit.Ready ∧ toyCommit.Inv ∧ toyCommit.pend = false ∧ toyCommit.creq = true) ∧
      toyStart.Ready ∧ toyStart.Inv ∧ toyStart.pend = false ∧ toyStart.creq = false := by decide

theorem witness_DeadlineMissFaults : toyPend.Ready ∧ toyPend.pend = true := by decide

/-- Every clause: a completed operation of each kind, BOUNDARY with and without a commit. -/
theorem witness_CompletedOperationFrames :
    (∃ s t, exec (.cycle false) s = .next t ∧ t.Live) ∧
      (∃ s t, exec .boundary s = .next t ∧ t.Live ∧ s.creq = true) ∧
      (∃ s t, exec .boundary s = .next t ∧ t.Live ∧ s.creq = false) ∧
      (∃ s t, exec (.lookup 0) s = .next t ∧ t.Live) ∧ ∃ s t, exec .reset s = .next t ∧ t.Live :=
  ⟨⟨toySkip, _, rfl, rfl, rfl⟩, ⟨toyCommit, _, rfl, ⟨rfl, rfl⟩, rfl⟩, ⟨toyStart, _, rfl, ⟨rfl, rfl⟩, rfl⟩,
    ⟨toyStart, _, rfl, rfl, rfl⟩, toyOff, _, rfl, rfl, rfl⟩

theorem witness_MarkedOutcomeChangesOnlyTheMark :
    (∃ s t, exec .boundary s = .next t ∧ t.fault = some .deadline) ∧
      ∃ s t, exec (.cycle true) s = .next t ∧ t.refused = some .notPending :=
  ⟨⟨toyPend, _, rfl, rfl⟩, toyStart, _, rfl, rfl⟩

theorem witness_OnlyTheTwoFaultsAreRaised :
    (∃ s t, exec (.lookup 6) s = .next t ∧ t.fault = some (.index 6)) ∧
      ∃ s t, exec .boundary s = .next t ∧ t.fault = some .deadline :=
  ⟨⟨toyStart, _, rfl, rfl⟩, toyPend, _, rfl, rfl⟩

theorem witness_RefusalsOfAnAdmittedRun :
    (∃ s t, s.RunInv ∧ s.cfg.ok = true ∧ exec .boundary s = .next t ∧ t.refused = some .notStarted) ∧
      (∃ s t, s.RunInv ∧ s.cfg.ok = true ∧ exec .reset s = .next t ∧ t.refused = some .lateReset) ∧
      ∃ s t, s.RunInv ∧ s.cfg.ok = true ∧ exec (.cycle true) s = .next t ∧ t.refused = some .notPending :=
  ⟨⟨toyOff, _, by decide, by decide, rfl, rfl⟩, ⟨toyStart, _, by decide, by decide, rfl, rfl⟩,
    toyStart, _, by decide, by decide, rfl, rfl⟩

theorem witness_PendLifeCycle :
    (∃ s t, exec .boundary s = .next t ∧ t.Live ∧ t.pend ≠ s.pend) ∧
      (∃ s t, exec (.cycle true) s = .next t ∧ t.Live ∧ t.pend ≠ s.pend) ∧ toyPend.Ready ∧ toyPend.pend = true :=
  ⟨⟨toyStart, _, rfl, ⟨rfl, rfl⟩, by decide⟩, ⟨toyPend, _, rfl, ⟨rfl, rfl⟩, by decide⟩, by decide⟩

theorem witness_GeneratorStateHasItsOwnWriters :
    (∃ s t, exec (.cycle true) s = .next t ∧ (t.idx, t.smp, t.cnt) ≠ (s.idx, s.smp, s.cnt)) ∧
      (∃ s t, exec .boundary s = .next t) ∧ ∃ s t, exec (.lookup 1) s = .next t :=
  ⟨⟨toyPend, _, rfl, by decide⟩, ⟨toyCommit, _, rfl⟩, toyStart, _, rfl⟩

theorem witness_OutputChangesOnlyAtTheCommit :
    ∃ s t, exec .boundary s = .next t ∧ (t.priAct, t.secAct) ≠ (s.priAct, s.secAct) :=
  ⟨toyCommit, _, rfl, by decide⟩

theorem witness_InterfaceFieldsHaveTheirWriters :
    (∃ s t, exec (.cycle true) s = .next t ∧ (t.priBuf, t.secBuf) ≠ (s.priBuf, s.secBuf) ∧ s.creq = false ∧
      t.creq = true) ∧
      (∃ s t, exec .boundary s = .next t ∧ s.creq = true ∧ t.creq = false) ∧
      (∃ s t, exec (.lookup 1) s = .next t ∧ t.tdata ≠ s.tdata) ∧
      ∃ s t, exec .reset s = .next t ∧ t.started ≠ s.started :=
  ⟨⟨toyPend, _, rfl, by decide, rfl, rfl⟩, ⟨toyCommit, _, rfl, rfl, rfl⟩, ⟨toyStart, _, rfl, by decide⟩,
    toyOff, _, rfl, by decide⟩

theorem witness_TheTableNeverChanges : ∃ s t, step s = .next t := ⟨{ toyPend with ops := [0x3000] }, _, rfl⟩

theorem witness_EveryStepKeepsTheInvariant : ∃ s t, s.RunInv ∧ s.started = true ∧ step s = .next t :=
  ⟨{ toyPend with ops := [0x3000] }, _, by decide, rfl, rfl⟩

theorem witness_IndexAndCounterFitTheirWidths : toyStart.started = true ∧ toyStart.RunInv := by decide

theorem witness_DurationPairsStayComplementary :
    ∃ s t, s.cfg.law = .onesComplement ∧ s.PairsComplementary ∧ step s = .next t := by
  refine ⟨{ toyCommit with ops := [0x2000] }, _, rfl, ⟨?_, ?_⟩, rfl⟩
  · intro p q hp hq
    cases hp
    cases hq
    decide
  · intro p q hp
    cases hp

theorem witness_UnwrittenPortsGiveNoValue :
    portValue .tdata toyStart = none ∧ portValue .priBuf toyCommit = some 128 := by decide

/-- A schedule with an in-range LOOKUP at the last index. -/
theorem witness_ExactlyTheTickSchedulesComplete :
    toyStart.Ready ∧ toyStart.cfg.ok = true ∧ toyStart.Inv ∧
      (∀ idx : TableIndex, Instr.lookup idx ∈ [Instr.lookup 5, .boundary, .cycle true] → idx.toNat < toyStart.cfg.L) ∧
      tickSchedule toyStart.pend [.lookup 5, .boundary, .cycle true] = true ∧
      tickSchedule toyStart.pend [.boundary, .boundary] = false := by
  refine ⟨by decide, by decide, by decide, ?_, by decide, by decide⟩
  intro idx h
  simp only [List.mem_cons, Instr.lookup.injEq, reduceCtorEq, List.not_mem_nil, or_false] at h
  subst h
  decide

/-- The premises of the statements about runs of ticks. -/
theorem witness_runs :
    toyStart.Ready ∧ toyStart.cfg.ok = true ∧ toyStart.Inv ∧ toyStart.pend = false ∧ toyStart.creq = false ∧
      toyStart.idx = 0 ∧ toyStart.cnt = toyStart.cfg.R := by decide

theorem witness_IndexAndCounterAfterTicks :
    toyStart.Ready ∧ toyStart.cfg.ok = true ∧ toyStart.Inv ∧ toyStart.pend = false := by decide

theorem witness_LowModePeriodIsTheTableLength :
    toyCommit.Ready ∧ toyCommit.cfg.ok = true ∧ toyCommit.Inv ∧ toyCommit.pend = false := by decide

theorem witness_HighModePeriodOfIndexAndCounter :
    toyStart.Ready ∧ toyStart.cfg.ok = true ∧ toyStart.Inv ∧ toyStart.pend = false := by decide

theorem witness_OutputTimelineFollowsThePositions :
    toyStart.Ready ∧ toyStart.cfg.ok = true ∧ toyStart.Inv ∧ toyStart.pend = false ∧ toyStart.creq = false := by decide

theorem witness_CommittedSamplesInEachMode :
    toyStart.Ready ∧ toyStart.cfg.ok = true ∧ toyStart.Inv ∧ toyStart.pend = false ∧ toyStart.creq = false ∧
      toyStart.idx = 0 ∧ toyStart.cnt = toyStart.cfg.R := by decide

theorem witness_OutputLagsTwoBoundaries :
    toyStart.Ready ∧ toyStart.cfg.ok = true ∧ toyStart.Inv ∧ toyStart.pend = false ∧ toyStart.creq = false := by decide

end Sys2Proof.Tests
end

-- The Generator State (10_state.md R22): who reads it and who writes it.
section

namespace Sys2Proof.Machine

/-- `s` with other values in the Generator State IDX, SMP and CNT, and in no other field (10_state.md R22). -/
def State.withGenerator (x c : Nat) (m : Sample) (s : State) : State := { s with idx := x, smp := m, cnt := c }

/-- The outcome with its next state, if it has one, changed by `f`. -/
def mapNext (f : State → State) : Host.Outcome State Fault Refusal → Host.Outcome State Fault Refusal
  | .next s => .next (f s)
  | .fault r => .fault r
  | .refused r => .refused r

theorem mapNext_next (f : State → State) (s : State) : mapNext f (.next s) = .next (f s) := rfl

theorem withGenerator_self (s : State) : s.withGenerator s.idx s.cnt s.smp = s := rfl

/-- The gate reads FAULT, REFUSED and STARTED only, so an operation behind it commutes with the replacement when its
own meaning does. -/
theorem gateStarted_withGenerator (x c : Nat) (m : Sample) (s : State)
    {k : State → Host.Outcome State Fault Refusal}
    (hk : k (s.withGenerator x c m) = mapNext (State.withGenerator x c m) (k s)) :
    gateStarted (s.withGenerator x c m) k = mapNext (State.withGenerator x c m) (gateStarted s k) := by
  dsimp only [gateStarted, gate, State.withGenerator] at hk ⊢
  split
  · rfl
  · rfl
  · split
    · exact hk
    · rfl

theorem execBoundary_withGenerator (x c : Nat) (m : Sample) (s : State) :
    execBoundary (s.withGenerator x c m) = mapNext (State.withGenerator x c m) (execBoundary s) := by
  refine gateStarted_withGenerator x c m s ?_
  dsimp only [State.withGenerator]
  split
  · rfl
  · split
    · split <;> rfl
    · rfl

theorem execLookup_withGenerator (idx : TableIndex) (x c : Nat) (m : Sample) (s : State) :
    execLookup idx (s.withGenerator x c m) = mapNext (State.withGenerator x c m) (execLookup idx s) := by
  refine gateStarted_withGenerator x c m s ?_
  dsimp only [State.withGenerator]
  split
  · rfl
  · split <;> rfl

/-- BOUNDARY and LOOKUP do not read the Generator State. -/
theorem exec_withGenerator {i : Instr} (hi : i = .boundary ∨ ∃ idx, i = .lookup idx) (x c : Nat) (m : Sample)
    (s : State) : exec i (s.withGenerator x c m) = mapNext (State.withGenerator x c m) (exec i s) := by
  obtain rfl | ⟨idx, rfl⟩ := hi
  · exact execBoundary_withGenerator x c m s
  · exact execLookup_withGenerator idx x c m s

/-- Put the state's own values in the Generator State: nothing changes before the operation, so the values put there
after it are the ones it leaves. -/
theorem exec_keeps_generator {i : Instr} (hi : i = .boundary ∨ ∃ idx, i = .lookup idx) {s t : State}
    (h : exec i s = .next t) : (t.idx, t.smp, t.cnt) = (s.idx, s.smp, s.cnt) := by
  have hw := exec_withGenerator hi s.idx s.cnt s.smp s
  rw [withGenerator_self, h, mapNext_next] at hw
  have ht : t = t.withGenerator s.idx s.cnt s.smp := Host.Outcome.next.inj hw
  rw [ht]
  rfl

end Sys2Proof.Machine

open Sys2Proof Sys2Proof.Machine

/-- Settles O41: BOUNDARY and LOOKUP commute with a replacement of the Generator State, and so they do not change it
either. -/
theorem generatorStateHasItsOwnWriters : Obligations.GeneratorStateHasItsOwnWriters := by
  refine ⟨fun i s t h hne => ?_, fun i s t x c m hi h => ?_⟩
  · cases i with
    | reset => exact .inl rfl
    | boundary => exact absurd (exec_keeps_generator (.inl rfl) h) hne
    | cycle lf => exact .inr ⟨lf, rfl⟩
    | lookup idx => exact absurd (exec_keeps_generator (.inr ⟨idx, rfl⟩) h) hne
  · have hw := exec_withGenerator hi x c m s
    rw [h, mapNext_next] at hw
    exact hw

end

-- CYCLE in an admitted run (44_cycle_handler.md R98, R99): it completes, and with which next state.
section

namespace Sys2Proof.Machine

theorem shapeOk_of_ok {c : Config} (h : c.ok = true) : c.shapeOk = true :=
  ((Bool.and_eq_true _ _).mp h).1

theorem generatorInRange_of_inv {s : State} (h : s.Inv) : generatorInRange s = true := by
  obtain ⟨hidx, -, hpos, hle, -⟩ := h
  exact generatorInRange_iff.mpr ⟨hidx, hpos, hle⟩

/-- Steps 4 and 5 leave the index inside an admitted table, so step 6 finds an entry (43_frequency_correction_counter.md
R93, 41_sine_table_lookup.md R77). -/
theorem exists_tableRead_newIdx {s : State} (h : s.cfg.shapeOk = true) (lf : Bool) :
    ∃ v, tableRead s.cfg (newIdx lf s) = some v := by
  have hL : 0 < s.cfg.L := Nat.lt_of_lt_of_le Nat.zero_lt_two (two_le_length_of_shapeOk h)
  exact tableRead_of_lt (entriesOk_of_shapeOk h) (newIdx_lt hL lf)

/-- The last case of `execCycle_next`, as an equation: steps 1 to 7 where no check of CYCLE refuses. -/
theorem execCycle_of_tableRead {lf : Bool} {s : State} {v : Sample} (hr : s.Ready) (hp : s.pend = true)
    (hg : generatorInRange s = true) (hv : tableRead s.cfg (newIdx lf s) = some v) :
    execCycle lf s = .next { s with
      priBuf := some s.smp, secBuf := some (secondary s.cfg.law s.smp), creq := true,
      idx := newIdx lf s, cnt := newCnt lf s, smp := v, pend := false } := by
  have hd : tableRead (dutyUpdate s).cfg (newIdx lf (dutyUpdate s)) = some v := hv
  unfold execCycle
  rw [gateStarted_of_ready hr, if_pos hp, if_pos hg, advance_eq, hd]
  rfl

end Sys2Proof.Machine

open Sys2Proof Sys2Proof.Machine

/-- Settles O26: the entry that step 6 needs exists at the new index, so the invocation completes, and its next state
holds the old sample in PRI_BUF and that entry in SMP. -/
theorem cycleWritesTheCachedSampleThenReloads : Obligations.CycleWritesTheCachedSampleThenReloads := by
  intro lf s hr hp hok hinv
  obtain ⟨v, hv⟩ := exists_tableRead_newIdx (shapeOk_of_ok hok) lf
  exact ⟨_, execCycle_of_tableRead hr hp (generatorInRange_of_inv hinv) hv, hr.1, rfl, hv, rfl⟩

end

-- The index advance of step 4 (43_frequency_correction_counter.md R87).
section

namespace Sys2Proof.Machine

/-- Inside the table the advance modulo L is the conditional of 43_frequency_correction_counter.md R87. -/
theorem nextIndex_of_lt {c : Config} {i : Nat} (h : i < c.L) :
    nextIndex c i = if i = c.L - 1 then 0 else i + 1 := by
  unfold nextIndex
  split
  case isTrue hlast =>
    have hwrap : i + 1 = c.L := by omega
    rw [hwrap, Nat.mod_self]
  case isFalse hnot => exact Nat.mod_eq_of_lt (by omega)

end Sys2Proof.Machine

open Sys2Proof Sys2Proof.Machine

/-- Settles O29: INV puts the index inside the table, where the advance is the conditional; step 4 writes no other
field by its definition. -/
theorem indexAdvanceWraps : Obligations.IndexAdvanceWraps := by
  intro s hinv
  have hidx : s.idx < s.cfg.L := hinv.1
  exact ⟨rfl, nextIndex_of_lt hidx, rfl⟩

end

-- Completion of CYCLE (44_cycle_handler.md R98).
section

open Sys2Proof Sys2Proof.Machine

/-- Settles O25: the invocation whose effect `cycleWritesTheCachedSampleThenReloads` describes ends in a live state. -/
theorem cycleAlwaysCompletes : Obligations.CycleAlwaysCompletes := by
  intro lf s hready hpend hok hinv
  obtain ⟨t, hexec, hlive, -⟩ := cycleWritesTheCachedSampleThenReloads lf s hready hpend hok hinv
  exact ⟨t, hexec, hlive⟩

end

-- The two fields of an operation word, OP and ARG, and the round trips between words and operations (30_encoding.md).
section

namespace Sys2Proof

/-- A word is its OP field followed by its ARG field (30_encoding.md R58). -/
theorem opField_append_argField (w : Word) : opField w ++ argField w = w :=
  BitVec.extractLsb'_append_extractLsb'

@[simp] theorem opField_append (op : BitVec 4) (arg : TableIndex) : opField (op ++ arg) = op :=
  BitVec.extractLsb'_append_eq_left

@[simp] theorem argField_append (op : BitVec 4) (arg : TableIndex) : argField (op ++ arg) = arg :=
  BitVec.extractLsb'_append_eq_right

/-- Equality of words, field by field. -/
theorem eq_append_iff {w : Word} {op : BitVec 4} {arg : TableIndex} :
    w = op ++ arg ↔ opField w = op ∧ argField w = arg := by
  constructor
  · rintro rfl
    simp
  · rintro ⟨rfl, rfl⟩
    exact (opField_append_argField w).symm


theorem toNat_append_fields (op : BitVec 4) (arg : TableIndex) :
    (op ++ arg : Word).toNat = op.toNat * 4096 + arg.toNat := by
  have h := BitVec.toNat_append op arg
  rwa [← Nat.shiftLeft_add_eq_or_of_lt arg.isLt, Nat.shiftLeft_eq] at h

theorem toNat_opField (w : Word) : (opField w).toNat = w.toNat / 4096 := by
  have := congrArg BitVec.toNat (opField_append_argField w)
  rw [toNat_append_fields] at this
  omega

theorem toNat_argField (w : Word) : (argField w).toNat = w.toNat % 4096 := by
  have := congrArg BitVec.toNat (opField_append_argField w)
  rw [toNat_append_fields] at this
  omega
theorem toNat_cycleZeroField (w : Word) : (cycleZeroField w).toNat = w.toNat % 4096 / 2 := by
  simp only [cycleZeroField, BitVec.extractLsb'_toNat, Nat.shiftRight_eq_div_pow]
  omega
theorem lfField_eq (w : Word) : lfField w = decide (w.toNat % 2 = 1) := by
  simp [lfField, BitVec.getLsbD, Nat.testBit_zero]
/-! ### The words of the operations, by fields -/

theorem encode_reset : encode .reset = (0x1#4 ++ 0x000#12 : Word) := rfl

theorem encode_boundary : encode .boundary = (0x2#4 ++ 0x000#12 : Word) := rfl

theorem encode_cycle (lf : Bool) : encode (.cycle lf) = (0x3#4 ++ (BitVec.ofBool lf).setWidth 12 : Word) := by
  cases lf <;> rfl

theorem toNat_encode_lookup (idx : TableIndex) : (encode (.lookup idx)).toNat = 0x4000 + idx.toNat := by
  have hlt : idx.toNat < 2 ^ 14 := Nat.lt_trans idx.isLt (by decide)
  have hor : (0x4000 : Nat) ||| idx.toNat = 0x4000 + idx.toNat := (Nat.two_pow_add_eq_or_of_lt hlt 1).symm
  simp only [encode, BitVec.toNat_or, BitVec.toNat_setWidth, BitVec.ofNat_eq_ofNat, BitVec.toNat_ofNat]
  rw [Nat.mod_eq_of_lt (Nat.lt_trans hlt (by decide)), ← hor]

theorem encode_lookup (idx : TableIndex) : encode (.lookup idx) = (0x4#4 ++ idx : Word) :=
  BitVec.eq_of_toNat_eq (by rw [toNat_encode_lookup, toNat_append_fields]; rfl)

/-- Format C: with `w[11:1] = 0` the whole of ARG is LF (30_encoding.md R59). -/
theorem argField_of_cycleZeroField {w : Word} (h : cycleZeroField w = 0) :
    argField w = (BitVec.ofBool (lfField w)).setWidth 12 := by
  have hz : w.toNat % 4096 / 2 = 0 := by rw [← toNat_cycleZeroField, h]; rfl
  apply BitVec.eq_of_toNat_eq
  rw [toNat_argField, lfField_eq]
  by_cases hodd : w.toNat % 2 = 1
  · simp only [hodd, decide_true]
    change w.toNat % 4096 = 1
    omega
  · simp only [hodd, decide_false]
    change w.toNat % 4096 = 0
    omega

/-! ### The decoder -/

theorem decode_encode (i : Instr) : decode (encode i) = .instr i := by
  cases i with
  | reset => rfl
  | boundary => rfl
  | cycle lf => cases lf <;> rfl
  | lookup idx => simp [decode, encode_lookup]

/-- Each branch of the decoder that reads an operation has fixed every bit that is not the operand's. -/
theorem encode_of_decode {w : Word} {i : Instr} (h : decode w = .instr i) : encode i = w := by
  unfold decode at h
  split at h
  · split at h <;> cases h
    rw [encode_reset]
    exact (eq_append_iff.mpr ⟨‹_›, ‹_›⟩).symm
  split at h
  · split at h <;> cases h
    rw [encode_boundary]
    exact (eq_append_iff.mpr ⟨‹_›, ‹_›⟩).symm
  split at h
  · split at h <;> cases h
    rw [encode_cycle]
    exact (eq_append_iff.mpr ⟨‹_›, argField_of_cycleZeroField ‹_›⟩).symm
  split at h <;> cases h
  rw [encode_lookup]
  exact (eq_append_iff.mpr ⟨‹_›, rfl⟩).symm

end Sys2Proof

open Sys2Proof Sys2Proof.Machine

/-- Settles O2: the operand's bits stand in ARG and OP names the operation, so the decoder finds both again. -/
theorem decodeOfEncodeIsTheOperation : Obligations.DecodeOfEncodeIsTheOperation := decode_encode

/-- Settles O3: the converse round trip. -/
theorem encodeOfDecodeIsTheWord : Obligations.EncodeOfDecodeIsTheWord := fun _ _ => encode_of_decode

end

-- The reserved words, the opcode map and the assembler (30_encoding.md sections 3, 5 and 6).
section

namespace Sys2Proof

/-! ### The conditions of the decoder as conditions on the word's number -/

theorem opField_eq_iff {w : Word} {op : BitVec 4} : opField w = op ↔ w.toNat / 4096 = op.toNat := by
  rw [← toNat_opField, BitVec.toNat_inj]

theorem argField_eq_zero_iff {w : Word} : argField w = 0 ↔ w.toNat % 4096 = 0 := by
  rw [← toNat_argField, ← BitVec.toNat_inj]
  rfl

theorem cycleZeroField_eq_zero_iff {w : Word} : cycleZeroField w = 0 ↔ w.toNat % 4096 / 2 = 0 := by
  rw [← toNat_cycleZeroField, ← BitVec.toNat_inj]
  rfl

/-! ### What the decoder answers under each opcode -/

theorem decode_of_op_reset {w : Word} (h : opField w = 0x1) :
    decode w = if argField w = 0 then .instr .reset else .reserved .noOperandFormat := by
  simp [decode, h]

theorem decode_of_op_boundary {w : Word} (h : opField w = 0x2) :
    decode w = if argField w = 0 then .instr .boundary else .reserved .noOperandFormat := by
  simp [decode, h]

theorem decode_of_op_cycle {w : Word} (h : opField w = 0x3) :
    decode w = if cycleZeroField w = 0 then .instr (.cycle (lfField w)) else .reserved .cycleFormat := by
  simp [decode, h]

theorem decode_of_op_lookup {w : Word} (h : opField w = 0x4) : decode w = .instr (.lookup (argField w)) := by
  simp [decode, h]

theorem decode_of_op_other {w : Word} (h1 : opField w ≠ 0x1) (h2 : opField w ≠ 0x2) (h3 : opField w ≠ 0x3)
    (h4 : opField w ≠ 0x4) : decode w = .reserved .opcode := by
  simp only [decode, if_neg h1, if_neg h2, if_neg h3, if_neg h4]

/-! ### The opcode map -/

theorem opField_and (w m : Word) : opField (w &&& m) = opField w &&& opField m := BitVec.extractLsb'_and

theorem argField_and (w m : Word) : argField (w &&& m) = argField w &&& argField m := BitVec.extractLsb'_and

theorem cycleZeroField_and (w m : Word) : cycleZeroField (w &&& m) = cycleZeroField w &&& cycleZeroField m :=
  BitVec.extractLsb'_and

/-- Every mask keeps the whole of OP. -/
theorem opField_of_selects {w : Word} {r : OpcodeRow} (hr : r ∈ opcodeMap) (h : w &&& r.mask = r.pattern) :
    opField w = opField r.pattern := by
  have hm : ∀ r ∈ opcodeMap, opField r.mask = BitVec.allOnes 4 := by decide
  rw [← h, opField_and, hm r hr, BitVec.and_allOnes]

/-- A word that selects a row meets the conditions of the decoder's branch for it: the mask keeps the bits the format
fixes. -/
theorem decode_of_selects {w : Word} {r : OpcodeRow} (hr : r ∈ opcodeMap) (h : w &&& r.mask = r.pattern) :
    ∃ i, decode w = .instr i ∧ i.row = r := by
  have hop := opField_of_selects hr h
  have harg := congrArg argField h
  have hzero := congrArg cycleZeroField h
  rw [argField_and] at harg
  rw [cycleZeroField_and] at hzero
  simp only [opcodeMap, List.mem_cons, List.not_mem_nil, or_false] at hr
  obtain rfl | rfl | rfl | rfl := hr
  · have h0 : argField w = 0 := BitVec.and_allOnes.symm.trans harg
    exact ⟨.reset, by rw [decode_of_op_reset hop, if_pos h0], rfl⟩
  · have h0 : argField w = 0 := BitVec.and_allOnes.symm.trans harg
    exact ⟨.boundary, by rw [decode_of_op_boundary hop, if_pos h0], rfl⟩
  · have h0 : cycleZeroField w = 0 := BitVec.and_allOnes.symm.trans hzero
    exact ⟨.cycle (lfField w), by rw [decode_of_op_cycle hop, if_pos h0], rfl⟩
  · exact ⟨.lookup (argField w), decode_of_op_lookup hop, rfl⟩

theorem encodingSelectsRow (i : Instr) : Laws.EncodingSelectsRow.Statement i := by
  cases i with
  | reset => exact Laws.EncodingSelectsRow.reset
  | boundary => exact Laws.EncodingSelectsRow.boundary
  | cycle lf => exact Laws.EncodingSelectsRow.cycle lf
  | lookup idx => exact Laws.EncodingSelectsRow.lookup idx

theorem and_mask_of_decode {w : Word} {i : Instr} (h : decode w = .instr i) : w &&& i.row.mask = i.row.pattern := by
  obtain ⟨hsel, -⟩ := encodingSelectsRow i
  rw [encode_of_decode h] at hsel
  exact eq_of_beq hsel

theorem row_eq_of_mnemonic {i : Instr} {r : OpcodeRow} (hr : r ∈ opcodeMap) (h : i.mnemonic = r.mnemonic) :
    i.row = r := by
  have hinj : ∀ r ∈ opcodeMap, ∀ r' ∈ opcodeMap, r.mnemonic = r'.mnemonic → r = r' := by decide
  obtain ⟨-, hmem, hmn⟩ := encodingSelectsRow i
  exact hinj _ hmem _ hr (hmn.trans h)

theorem row_mnemonic (i : Instr) : i.row.mnemonic = i.mnemonic := (encodingSelectsRow i).2.2

/-! ### The assembler -/

theorem encode_cycle_of_le {lf : Nat} (h : lf ≤ 1) : encode (.cycle (lf == 1)) = BitVec.ofNat 16 (0x3000 + lf) := by
  obtain rfl | rfl : lf = 0 ∨ lf = 1 := by omega
  · rfl
  · rfl

theorem encode_lookup_of_le {idx : Nat} (h : idx ≤ 4095) :
    encode (.lookup (BitVec.ofNat 12 idx)) = BitVec.ofNat 16 (0x4000 + idx) := by
  apply BitVec.eq_of_toNat_eq
  rw [toNat_encode_lookup, BitVec.toNat_ofNat, BitVec.toNat_ofNat]
  omega

theorem assemble_of_wellFormed {l : AsmLine} (h : l.wellFormed = true) : assemble l = some (l.expand.map encode) :=
  if_pos h

theorem assemble_of_not_wellFormed {l : AsmLine} (h : l.wellFormed = false) : assemble l = none := by
  simp [assemble, h]

/-- The words of a line that hands its `lf` to `cycle` (30_encoding.md R69). -/
theorem assemble_lf {lf : Nat} (h : lf ≤ 1) (n : Nat) :
    assemble (.cycle lf) = some [BitVec.ofNat 16 (0x3000 + lf)] ∧
      assemble (.tick lf) = some [0x2000, BitVec.ofNat 16 (0x3000 + lf)] ∧
      assemble (.run n lf) = some (List.replicate n [0x2000#16, BitVec.ofNat 16 (0x3000 + lf)]).flatten := by
  have hwf : decide (lf ≤ 1) = true := decide_eq_true h
  rw [← encode_cycle_of_le h]
  refine ⟨assemble_of_wellFormed (l := .cycle lf) hwf, assemble_of_wellFormed (l := .tick lf) hwf, ?_⟩
  rw [assemble_of_wellFormed (l := .run n lf) hwf]
  simp only [AsmLine.expand, List.map_flatten, List.map_replicate, List.map_cons, List.map_nil]
  rfl

end Sys2Proof

open Sys2Proof Sys2Proof.Machine

/-- Settles O4: by the opcode, the decoder answering one format's condition under each. -/
theorem reservedWordsAreExactlyTheListed : Obligations.ReservedWordsAreExactlyTheListed := by
  intro w
  by_cases h1 : opField w = 0x1
  · have hop : w.toNat / 4096 = 1 := opField_eq_iff.mp h1
    simp only [decode_of_op_reset h1, argField_eq_zero_iff]
    split <;> simp [*]
  by_cases h2 : opField w = 0x2
  · have hop : w.toNat / 4096 = 2 := opField_eq_iff.mp h2
    simp only [decode_of_op_boundary h2, argField_eq_zero_iff]
    split <;> simp [*]
  by_cases h3 : opField w = 0x3
  · have hop : w.toNat / 4096 = 3 := opField_eq_iff.mp h3
    simp only [decode_of_op_cycle h3, cycleZeroField_eq_zero_iff]
    split <;> simp [*]
  by_cases h4 : opField w = 0x4
  · have hop : w.toNat / 4096 = 4 := opField_eq_iff.mp h4
    simp [decode_of_op_lookup h4, hop]
  · rw [decode_of_op_other h1 h2 h3 h4]
    simp only [opField_eq_iff, BitVec.ofNat_eq_ofNat, BitVec.toNat_ofNat] at h1 h2 h3 h4
    simp
    omega

/-- Settles O5: the masks keep exactly the bits the decoder tests, and two rows that select one word both belong to the
one operation the word decodes to. -/
theorem opcodeMapAgreesWithTheDecoder : Obligations.OpcodeMapAgreesWithTheDecoder := by
  refine fun w => ⟨fun r hr => ⟨fun h => ?_, ?_⟩, fun r hr r' hr' h h' => ?_⟩
  · obtain ⟨i, hi, rfl⟩ := decode_of_selects hr h
    exact ⟨i, hi, (row_mnemonic i).symm⟩
  · rintro ⟨i, hi, hmn⟩
    rw [← row_eq_of_mnemonic hr hmn]
    exact and_mask_of_decode hi
  · obtain ⟨i, hi, rfl⟩ := decode_of_selects hr h
    obtain ⟨i', hi', rfl⟩ := decode_of_selects hr' h'
    rw [hi] at hi'
    cases hi'
    rfl

/-- Settles O6: an operand in range passes the check and its word is the number the section gives; out of range it is
rejected before any word is made. -/
theorem assemblerExpandsAndRejects : Obligations.AssemblerExpandsAndRejects := by
  refine ⟨rfl, rfl, rfl, rfl, fun n lf idx => ⟨fun h => assemble_lf h n, fun h => ?_, fun h => ?_, fun h => ?_⟩⟩
  · have hbad : decide (lf ≤ 1) = false := decide_eq_false (Nat.not_le.mpr h)
    exact ⟨assemble_of_not_wellFormed hbad, assemble_of_not_wellFormed hbad, assemble_of_not_wellFormed hbad⟩
  · rw [← encode_lookup_of_le h]
    exact assemble_of_wellFormed (l := .lookup idx) (decide_eq_true h)
  · exact assemble_of_not_wellFormed (decide_eq_false (Nat.not_le.mpr h))

/-- Settles O1: the decoder run on each of the eleven words. -/
theorem exampleWordsDecode : Obligations.ExampleWordsDecode := by
  unfold Obligations.ExampleWordsDecode
  decide

end

-- What an operation answers, as one relation for each kind of answer, and what a step keeps (60_exceptions.md).
section

namespace Sys2Proof.Machine

/-- The operation finds its fault condition in the state (60_exceptions.md R112). -/
inductive Faults (s : State) : Instr → FaultRecord → Prop
  /-- LOOKUP outside the table. -/
  | index {idx : TableIndex} (started : s.started = true) (outside : s.cfg.L ≤ lookupIndex idx) :
      Faults s (.lookup idx) (.index idx)
  /-- BOUNDARY while an invocation is owed. -/
  | deadline (started : s.started = true) (owed : s.pend = true) : Faults s .boundary .deadline

/-- The operation is refused in the state (60_exceptions.md R118): the first three for the reasons an admitted run can
meet, the others where the spec admits no run (log 11). -/
inductive Refuses (s : State) : Instr → RefusalReason → Prop
  | notStarted {i : Instr} (other : i ≠ .reset) (unstarted : s.started = false) : Refuses s i .notStarted
  | lateReset (started : s.started = true) : Refuses s .reset .lateReset
  | notPending {lf : Bool} (started : s.started = true) (notOwed : s.pend = false) :
      Refuses s (.cycle lf) .notPending
  | resetOverBadShape (unstarted : s.started = false) (shape : s.cfg.shapeOk = false) : Refuses s .reset .badConfig
  | boundaryOverUnwritten (started : s.started = true) (notOwed : s.pend = false) (requested : s.creq = true)
      (unwritten : s.priBuf = none ∨ s.secBuf = none) : Refuses s .boundary .badStart
  | cycleOutOfRange {lf : Bool} (started : s.started = true) (owed : s.pend = true)
      (range : generatorInRange s = false) : Refuses s (.cycle lf) .badStart
  | cycleWithoutEntry {lf : Bool} (started : s.started = true) (owed : s.pend = true)
      (range : generatorInRange s = true) (missing : tableRead s.cfg (newIdx lf s) = none) :
      Refuses s (.cycle lf) .badConfig
  | lookupWithoutEntry {idx : TableIndex} (started : s.started = true) (inside : lookupIndex idx < s.cfg.L)
      (missing : tableRead s.cfg (lookupIndex idx) = none) : Refuses s (.lookup idx) .badConfig

/-- The operation performs its whole effect and leaves the state `t`. -/
inductive Performs (s : State) : Instr → State → Prop
  | reset {v : Sample} (unstarted : s.started = false) (shape : s.cfg.shapeOk = true)
      (entry : tableRead s.cfg 0 = some v) : Performs s .reset (startup v s)
  | signal (started : s.started = true) (notOwed : s.pend = false) (noRequest : s.creq = false) :
      Performs s .boundary (signalCycle s)
  | commit {p q : Sample} (started : s.started = true) (notOwed : s.pend = false) (requested : s.creq = true)
      (primary : s.priBuf = some p) (secondary : s.secBuf = some q) :
      Performs s .boundary (signalCycle (commitPair p q s))
  | cycle {lf : Bool} {v : Sample} (started : s.started = true) (owed : s.pend = true)
      (range : generatorInRange s = true) (entry : tableRead s.cfg (newIdx lf s) = some v) :
      Performs s (.cycle lf)
        { s with
          priBuf := some s.smp, secBuf := some (secondary s.cfg.law s.smp), creq := true,
          idx := newIdx lf s, cnt := newCnt lf s, smp := v, pend := false }
  | lookup {idx : TableIndex} {v : Sample} (started : s.started = true) (inside : lookupIndex idx < s.cfg.L)
      (entry : tableRead s.cfg (lookupIndex idx) = some v) : Performs s (.lookup idx) (latchData v s)

/-! ### Every next state of an operation comes from a live state by one of the three -/

theorem exec_next {i : Instr} {s t : State} (h : exec i s = .next t) :
    s.Live ∧ ((∃ r, Faults s i r ∧ t = raise r s) ∨ (∃ r, Refuses s i r ∧ t = refuse r s) ∨ Performs s i t) := by
  cases i with
  | reset =>
    obtain ⟨hl, ⟨hs, rfl⟩ | ⟨hs, hc, v, hv, rfl⟩ | ⟨hs, hc, rfl⟩⟩ := execReset_next h
    · exact ⟨hl, .inr (.inl ⟨_, .lateReset hs, rfl⟩)⟩
    · exact ⟨hl, .inr (.inr (.reset hs hc hv))⟩
    · exact ⟨hl, .inr (.inl ⟨_, .resetOverBadShape hs hc, rfl⟩)⟩
  | boundary =>
    obtain ⟨hl, ⟨hs, rfl⟩ | ⟨hs, hp, rfl⟩ | ⟨hs, hp, hc, rfl⟩ | ⟨hs, hp, hc, p, q, hb, hq, rfl⟩ |
      ⟨hs, hp, hc, hb, rfl⟩⟩ := execBoundary_next h
    · exact ⟨hl, .inr (.inl ⟨_, .notStarted nofun hs, rfl⟩)⟩
    · exact ⟨hl, .inl ⟨_, .deadline hs hp, rfl⟩⟩
    · exact ⟨hl, .inr (.inr (.signal hs hp hc))⟩
    · exact ⟨hl, .inr (.inr (.commit hs hp hc hb hq))⟩
    · exact ⟨hl, .inr (.inl ⟨_, .boundaryOverUnwritten hs hp hc hb, rfl⟩)⟩
  | cycle lf =>
    obtain ⟨hl, ⟨hs, rfl⟩ | ⟨hs, hp, rfl⟩ | ⟨hs, hp, hg, rfl⟩ | ⟨hs, hp, hg, hn, rfl⟩ |
      ⟨hs, hp, hg, v, hv, rfl⟩⟩ := execCycle_next h
    · exact ⟨hl, .inr (.inl ⟨_, .notStarted nofun hs, rfl⟩)⟩
    · exact ⟨hl, .inr (.inl ⟨_, .notPending hs hp, rfl⟩)⟩
    · exact ⟨hl, .inr (.inl ⟨_, .cycleOutOfRange hs hp hg, rfl⟩)⟩
    · exact ⟨hl, .inr (.inl ⟨_, .cycleWithoutEntry hs hp hg hn, rfl⟩)⟩
    · exact ⟨hl, .inr (.inr (.cycle hs hp hg hv))⟩
  | lookup idx =>
    obtain ⟨hl, ⟨hs, rfl⟩ | ⟨hs, ho, rfl⟩ | ⟨hs, hi, v, hv, rfl⟩ | ⟨hs, hi, hn, rfl⟩⟩ := execLookup_next h
    · exact ⟨hl, .inr (.inl ⟨_, .notStarted nofun hs, rfl⟩)⟩
    · exact ⟨hl, .inl ⟨_, .index hs ho, rfl⟩⟩
    · exact ⟨hl, .inr (.inr (.lookup hs hi hv))⟩
    · exact ⟨hl, .inr (.inl ⟨_, .lookupWithoutEntry hs hi hn, rfl⟩)⟩

/-! ### The meaning of each operation -/

theorem exec_reset (s : State) : exec .reset s = execReset s := rfl

theorem exec_boundary (s : State) : exec .boundary s = execBoundary s := rfl

theorem exec_cycle (lf : Bool) (s : State) : exec (.cycle lf) s = execCycle lf s := rfl

theorem exec_lookup (idx : TableIndex) (s : State) : exec (.lookup idx) s = execLookup idx s := rfl

/-! ### And in a live state each of the three is what the operation answers -/

theorem Faults.exec_eq {s : State} {i : Instr} {r : FaultRecord} (h : Faults s i r) (hl : s.Live) :
    exec i s = .next (raise r s) := by
  cases h with
  | index hs ho => rw [exec_lookup, execLookup, gateStarted_of_ready ⟨hl, hs⟩, if_pos ho]
  | deadline hs hp => rw [exec_boundary, execBoundary, gateStarted_of_ready ⟨hl, hs⟩, if_pos hp]

theorem exec_of_not_started {s : State} {i : Instr} (hi : i ≠ .reset) (hl : s.Live) (hs : s.started = false) :
    exec i s = .next (refuse .notStarted s) := by
  cases i with
  | reset => exact absurd rfl hi
  | boundary => rw [exec_boundary, execBoundary, gateStarted_of_not_started hl hs]
  | cycle lf => rw [exec_cycle, execCycle, gateStarted_of_not_started hl hs]
  | lookup idx => rw [exec_lookup, execLookup, gateStarted_of_not_started hl hs]

theorem exec_late_reset {s : State} (hr : s.Ready) : exec .reset s = .next (refuse .lateReset s) := by
  rw [exec_reset, execReset, gate_of_live hr.1, if_pos hr.2]

theorem exec_cycle_not_pending {s : State} (hr : s.Ready) (hp : s.pend = false) (lf : Bool) :
    exec (.cycle lf) s = .next (refuse .notPending s) := by
  rw [exec_cycle, execCycle, gateStarted_of_ready hr, if_neg (Bool.eq_false_iff.mp hp)]

theorem Performs.exec_eq {s t : State} {i : Instr} (h : Performs s i t) (hl : s.Live) : exec i s = .next t := by
  cases h with
  | reset hs hc hv =>
    simp [exec_reset, execReset, gate_of_live hl, hs, hc, hv]
  | signal hs hp hc =>
    simp [exec_boundary, execBoundary, gateStarted_of_ready ⟨hl, hs⟩, hp, hc]
  | commit hs hp hc hb hq =>
    simp [exec_boundary, execBoundary, gateStarted_of_ready ⟨hl, hs⟩, hp, hc, hb, hq]
  | cycle hs hp hg hv => exact execCycle_of_tableRead ⟨hl, hs⟩ hp hg hv
  | lookup hs hi hv =>
    simp [exec_lookup, execLookup, gateStarted_of_ready ⟨hl, hs⟩, Nat.not_le.mpr hi, hv]

/-! ### The operations that leave no mark -/

theorem Performs.live {s t : State} {i : Instr} (h : Performs s i t) (hl : s.Live) : t.Live := by
  cases h with
  | reset => exact ⟨rfl, rfl⟩
  | signal | commit | cycle | lookup => exact hl

theorem Performs.cfg_eq {s t : State} {i : Instr} (h : Performs s i t) : t.cfg = s.cfg := by
  cases h <;> rfl

theorem performs_of_live {i : Instr} {s t : State} (h : exec i s = .next t) (ht : t.Live) :
    s.Live ∧ Performs s i t := by
  obtain ⟨hl, ⟨r, -, rfl⟩ | ⟨r, -, rfl⟩ | hp⟩ := exec_next h
  · exact absurd ht (not_live_raise r s)
  · exact absurd ht (not_live_refuse r s)
  · exact ⟨hl, hp⟩

/-! ### The gate of every operation -/

theorem exec_eq_gate (i : Instr) (s : State) : ∃ k, exec i s = gate s k := by
  cases i with
  | reset => rw [exec_reset, execReset]; exact ⟨_, rfl⟩
  | boundary => rw [exec_boundary, execBoundary, gateStarted]; exact ⟨_, rfl⟩
  | cycle lf => rw [exec_cycle, execCycle, gateStarted]; exact ⟨_, rfl⟩
  | lookup idx => rw [exec_lookup, execLookup, gateStarted]; exact ⟨_, rfl⟩

theorem exec_of_fault {s : State} {r : FaultRecord} (h : s.fault = some r) (i : Instr) :
    exec i s = .fault (.halted r) := by
  obtain ⟨k, hk⟩ := exec_eq_gate i s
  rw [hk, gate_of_fault h]

theorem exec_of_refused {s : State} {r : RefusalReason} (hf : s.fault = none) (h : s.refused = some r) (i : Instr) :
    exec i s = .refused (.halted r) := by
  obtain ⟨k, hk⟩ := exec_eq_gate i s
  rw [hk, gate_of_refused hf h]

/-! ### A step -/

theorem step_of_decode {s : State} {w : Word} {rest : List Word} {i : Instr} (ho : s.ops = w :: rest)
    (hd : decode w = .instr i) : step s = exec i { s with ops := rest } := by
  simp [step, takeOperation_cons ho, hd]

theorem step_of_reserved {s : State} {w : Word} {rest : List Word} {why : Reserved} (ho : s.ops = w :: rest)
    (hd : decode w = .reserved why) : step s = rejectReserved { s with ops := rest } := by
  simp [step, takeOperation_cons ho, hd]

theorem step_of_no_operation {s : State} (h : s.ops = []) : step s = .refused .noOperation := by
  simp [step, takeOperation_nil h]

/-- A step takes a word and then performs its operation or refuses the reserved word. -/
theorem step_next {s t : State} (h : step s = .next t) :
    ∃ rest, (∃ i, exec i { s with ops := rest } = .next t) ∨ s.Live ∧ t = refuse .reserved { s with ops := rest } := by
  cases ho : s.ops with
  | nil => rw [step_of_no_operation ho] at h; cases h
  | cons w rest =>
    cases hd : decode w with
    | instr i => exact ⟨rest, .inl ⟨i, step_of_decode ho hd ▸ h⟩⟩
    | reserved why =>
      rw [step_of_reserved ho hd] at h
      obtain ⟨hl, ht⟩ := gate_eq_next.mp h
      exact ⟨rest, .inr ⟨hl, (Host.Outcome.next.inj ht).symm⟩⟩

/-- What a step keeps: a property that depends neither on the waiting words nor on the marks, and that every operation
that performs its effect keeps. -/
theorem step_keeps {P : State → Prop} (hops : ∀ s rest, P s → P { s with ops := rest })
    (hraise : ∀ s r, P s → P (raise r s)) (hrefuse : ∀ s r, P s → P (refuse r s))
    (hperforms : ∀ s i t, Performs s i t → P s → P t) {s t : State} (hs : P s) (h : step s = .next t) : P t := by
  obtain ⟨rest, ⟨i, hi⟩ | ⟨-, rfl⟩⟩ := step_next h
  · obtain ⟨-, ⟨r, -, rfl⟩ | ⟨r, -, rfl⟩ | hp⟩ := exec_next hi
    · exact hraise _ r (hops s rest hs)
    · exact hrefuse _ r (hops s rest hs)
    · exact hperforms _ i t hp (hops s rest hs)
  · exact hrefuse _ _ (hops s rest hs)

/-! ### The invariant of a run -/

theorem inv_startup {s : State} {v : Sample} (hc : s.cfg.shapeOk = true) (hv : tableRead s.cfg 0 = some v) :
    (startup v s).Inv := by
  obtain ⟨hL, ht⟩ := tableRead_eq_some.mp hv
  have hR : 1 ≤ s.cfg.R := (shapeOk_iff.mp hc).2.1.1
  exact ⟨hL, ht, hR, Nat.le_refl _, nofun⟩

/-- Step 5 keeps the counter within its range: the new value is the old one, R, or one less where that is not 0. -/
theorem newCnt_range {s : State} (h : 1 ≤ s.cnt ∧ s.cnt ≤ s.cfg.R) (lf : Bool) :
    1 ≤ newCnt lf s ∧ newCnt lf s ≤ s.cfg.R := by
  unfold newCnt
  split
  · exact h
  · split <;> omega

theorem Performs.runInv {s t : State} {i : Instr} (h : Performs s i t) (hs : s.RunInv) : t.RunInv := by
  intro _
  cases h with
  | reset _ hc hv => exact ⟨hc, inv_startup hc hv⟩
  | signal hst => exact hs hst
  | commit hst =>
    obtain ⟨hc, hidx, hsmp, hpos, hle, -⟩ := hs hst
    exact ⟨hc, hidx, hsmp, hpos, hle, nofun⟩
  | cycle hst _ _ hv =>
    obtain ⟨hc, -, -, hpos, hle, -⟩ := hs hst
    obtain ⟨hidx, hsmp⟩ := tableRead_eq_some.mp hv
    obtain ⟨hpos', hle'⟩ := newCnt_range ⟨hpos, hle⟩ _
    exact ⟨hc, hidx, hsmp, hpos', hle', fun _ => ⟨nofun, nofun⟩⟩
  | lookup hst => exact hs hst

end Sys2Proof.Machine

open Sys2Proof Sys2Proof.Machine

/-- Settles O45: a mark and a taken word touch no field of INV, RESET establishes it, and CYCLE loads the entry at the
index it leaves. -/
theorem everyStepKeepsTheInvariant : Obligations.EveryStepKeepsTheInvariant := fun _ _ hs h =>
  step_keeps (P := State.RunInv) (fun _ _ => id) (fun _ _ => id) (fun _ _ => id)
    (fun _ _ _ hp => hp.runInv) hs h

end

-- The step, the gate and the marks (60_exceptions.md sections 1 to 3).
section

namespace Sys2Proof.Machine

theorem not_next_of_not_live {s t : State} (h : ¬ s.Live) : step s ≠ .next t := by
  intro hst
  obtain ⟨rest, ⟨i, hi⟩ | ⟨hl, -⟩⟩ := step_next hst
  · exact h (exec_next hi).1
  · exact h hl

theorem decode_of_decodeTableWord {n w : Nat} {i : Instr} (h : decodeTableWord n w = some i) :
    decode (tableWord n w) = .instr i := by
  unfold decodeTableWord at h
  split at h
  · cases h
    assumption
  · cases h

end Sys2Proof.Machine

open Sys2Proof Sys2Proof.Machine

/-- Settles O7: the second clause is the first with the issued word in front. -/
theorem stepPerformsTheDecodedOperation : Obligations.StepPerformsTheDecodedOperation :=
  ⟨fun _ _ _ _ => step_of_decode, fun s w _ h => step_of_decode (s := s.withFetchWord 16 w) rfl
    (decode_of_decodeTableWord h)⟩

/-- Settles O8. -/
theorem reservedWordIsRefused : Obligations.ReservedWordIsRefused := by
  intro s w rest why hl ho hd
  rw [step_of_reserved ho hd]
  exact gate_of_live (s := { s with ops := rest }) hl _

/-- Settles O9: every operation passes the gate, and so does the rejection of a reserved word. -/
theorem haltedStateTakesNoStep : Obligations.HaltedStateTakesNoStep :=
  ⟨fun _ _ i h => exec_of_fault h i, fun _ _ i hf h => exec_of_refused hf h i, fun _ h _ => not_next_of_not_live h⟩

/-- Settles O10. -/
theorem noOperationMeansNoStep : Obligations.NoOperationMeansNoStep := fun _ => step_of_no_operation

/-- Settles O11: the check of STARTED comes before every other check of the operation. -/
theorem gateChecksStarted : Obligations.GateChecksStarted := by
  refine fun s hl => ⟨fun hs => ⟨?_, fun lf => ?_, fun idx => ?_⟩, fun hs => exec_late_reset ⟨hl, hs⟩⟩
  all_goals exact exec_of_not_started nofun hl hs

/-- Settles O12. -/
theorem faultRecordsCarryCodeAndInfo : Obligations.FaultRecordsCarryCodeAndInfo := fun _ => ⟨rfl, rfl, rfl, rfl⟩

/-- Settles O37: a fault and a refusal are each one mark on a live state, and a performed operation leaves none. -/
theorem markedOutcomeChangesOnlyTheMark : Obligations.MarkedOutcomeChangesOnlyTheMark := by
  intro i s t h
  obtain ⟨hl, ⟨r, -, rfl⟩ | ⟨r, -, rfl⟩ | hp⟩ := exec_next h
  · exact ⟨hl, .inl ⟨r, rfl⟩⟩
  · exact ⟨hl, .inr (.inl ⟨r, rfl⟩)⟩
  · exact ⟨hl, .inr (.inr (hp.live hl))⟩

/-- Settles O38: a fault recorded after an operation was not there before it, so it is one of the two `Faults`. -/
theorem onlyTheTwoFaultsAreRaised : Obligations.OnlyTheTwoFaultsAreRaised := by
  intro i s t r h hf
  obtain ⟨hl, ⟨r', hr, rfl⟩ | ⟨r', -, rfl⟩ | hp⟩ := exec_next h
  · cases hf
    cases hr with
    | index _ ho => exact .inl ⟨_, rfl, rfl, ho⟩
    | deadline _ hp => exact .inr ⟨rfl, rfl, hp⟩
  · exact absurd (hl.1.symm.trans hf) nofun
  · exact absurd ((hp.live hl).1.symm.trans hf) nofun

/-- Settles O39: INV and the configuration's shape leave the last five reasons of `Refuses` no state. -/
theorem refusalsOfAnAdmittedRun : Obligations.RefusalsOfAnAdmittedRun := by
  intro i s t r hinv hok h hr
  have hshape := shapeOk_of_ok hok
  obtain ⟨hl, ⟨r', -, rfl⟩ | ⟨r', hr', rfl⟩ | hp⟩ := exec_next h
  · exact absurd (hl.2.symm.trans hr) nofun
  · cases hr
    cases hr' with
    | notStarted hi hs => exact .inl ⟨rfl, hi, hs⟩
    | lateReset hs => exact .inr (.inl ⟨rfl, rfl, hs⟩)
    | notPending hs hp => exact .inr (.inr ⟨rfl, hp, hs, _, rfl⟩)
    | resetOverBadShape _ hc => exact absurd (hshape.symm.trans hc) nofun
    | boundaryOverUnwritten hs _ hc hb =>
      obtain ⟨-, -, -, -, -, hbuf⟩ := hinv hs
      exact absurd hb (not_or.mpr (hbuf hc))
    | cycleOutOfRange hs _ hg =>
      exact absurd ((generatorInRange_of_inv (hinv hs).2).symm.trans hg) nofun
    | cycleWithoutEntry _ _ _ hn =>
      obtain ⟨v, hv⟩ := exists_tableRead_newIdx hshape _
      exact absurd (hv.symm.trans hn) nofun
    | lookupWithoutEntry _ hi hn =>
      obtain ⟨v, hv⟩ := tableRead_of_lt (entriesOk_of_shapeOk hshape) hi
      exact absurd (hv.symm.trans hn) nofun
  · exact absurd ((hp.live hl).2.symm.trans hr) nofun

end

-- What each operation writes and what it leaves (10_state.md section 8).
section

namespace Sys2Proof.Machine

/-- A mark changes no field but the mark, so a field that changed was written by an operation that performed its
effect. -/
theorem performs_of_field_ne {α : Type} (f : State → α) (hraise : ∀ r s, f (raise r s) = f s)
    (hrefuse : ∀ r s, f (refuse r s) = f s) {i : Instr} {s t : State} (h : exec i s = .next t) (hne : f t ≠ f s) :
    Performs s i t := by
  obtain ⟨-, ⟨r, -, rfl⟩ | ⟨r, -, rfl⟩ | hp⟩ := exec_next h
  · exact absurd (hraise r s) hne
  · exact absurd (hrefuse r s) hne
  · exact hp

end Sys2Proof.Machine

open Sys2Proof Sys2Proof.Machine

/-- Settles O36: read off the states the operations leave. -/
theorem completedOperationFrames : Obligations.CompletedOperationFrames := by
  refine fun s t ht => ⟨fun lf h => ?_, fun h => ?_, fun idx h => ?_, fun h => ?_⟩
  all_goals
    obtain ⟨-, hp⟩ := performs_of_live h ht
    have htable : ∀ a, tableRead t.cfg a = tableRead s.cfg a := fun a => by rw [hp.cfg_eq]
    cases hp
  · exact ⟨rfl, htable⟩
  · exact ⟨rfl, fun _ => rfl, htable⟩
  · exact ⟨rfl, fun hc => absurd (hc.symm.trans ‹s.creq = true›) nofun, htable⟩
  · exact ⟨rfl, htable⟩
  · exact ⟨rfl, rfl, htable⟩

/-- Settles O40: PEND is written by the performed operations alone, and each writes one value. -/
theorem pendLifeCycle : Obligations.PendLifeCycle := by
  refine ⟨fun i s t h => ⟨fun ht => ?_, fun hne => ?_⟩, fun s hr hp => (Faults.deadline hr.2 hp).exec_eq hr.1,
    fun lf lf' s t h ht => ?_⟩
  · cases (performs_of_live h ht).2 with
    | reset | cycle => exact ⟨nofun, fun _ => rfl⟩
    | signal | commit => exact ⟨fun _ => rfl, by simp⟩
    | lookup => exact ⟨nofun, by simp⟩
  · cases performs_of_field_ne State.pend (fun _ _ => rfl) (fun _ _ => rfl) h hne with
    | reset => exact .inr ⟨.inl rfl, rfl⟩
    | cycle => exact .inr ⟨.inr ⟨_, rfl⟩, rfl⟩
    | signal | commit => exact .inl ⟨rfl, rfl⟩
    | lookup => exact absurd rfl hne
  · obtain ⟨-, hp⟩ := performs_of_live h ht
    cases hp with
    | cycle hs => exact exec_cycle_not_pending ⟨ht, hs⟩ rfl lf'

/-- Settles O42: of the performed operations only the commit and RESET write the output pair. -/
theorem outputChangesOnlyAtTheCommit : Obligations.OutputChangesOnlyAtTheCommit := by
  intro i s t h hne
  cases performs_of_field_ne (fun u => (u.priAct, u.secAct)) (fun _ _ => rfl) (fun _ _ => rfl) h hne with
  | reset => exact .inr rfl
  | commit _ _ hc hb hq => exact .inl ⟨rfl, hc, rfl, hb.symm, hq.symm⟩
  | signal | cycle | lookup => exact absurd rfl hne

/-- Settles O43: a field that differs after the operation was written by an operation that performed its effect, and
those that do not write it are no case. -/
theorem interfaceFieldsHaveTheirWriters : Obligations.InterfaceFieldsHaveTheirWriters := by
  refine fun i s t h => ⟨fun hne => ?_, fun hc hc' => ?_, fun hc hc' => ?_, fun hne => ?_, fun hne => ?_⟩
  · cases performs_of_field_ne (fun u => (u.priBuf, u.secBuf)) (fun _ _ => rfl) (fun _ _ => rfl) h hne with
    | reset => exact .inl rfl
    | cycle => exact .inr ⟨_, rfl⟩
    | signal | commit | lookup => exact absurd rfl hne
  · have hne : t.creq ≠ s.creq := by simp [hc, hc']
    cases performs_of_field_ne State.creq (fun _ _ => rfl) (fun _ _ => rfl) h hne with
    | cycle => exact ⟨_, rfl⟩
    | reset | commit => cases hc'
    | signal | lookup => exact absurd rfl hne
  · have hne : t.creq ≠ s.creq := by simp [hc, hc']
    cases performs_of_field_ne State.creq (fun _ _ => rfl) (fun _ _ => rfl) h hne with
    | reset => exact .inr rfl
    | commit => exact .inl rfl
    | cycle => cases hc'
    | signal | lookup => exact absurd rfl hne
  · cases performs_of_field_ne State.tdata (fun _ _ => rfl) (fun _ _ => rfl) h hne with
    | reset => exact .inl rfl
    | lookup => exact .inr ⟨_, rfl⟩
    | signal | commit | cycle => exact absurd rfl hne
  · cases performs_of_field_ne State.started (fun _ _ => rfl) (fun _ _ => rfl) h hne with
    | reset => exact ⟨rfl, rfl⟩
    | signal | commit | cycle | lookup => exact absurd rfl hne

/-- Settles O44: the configuration, which holds the table, is kept by every step. -/
theorem theTableNeverChanges : Obligations.TheTableNeverChanges := by
  intro s t h
  have hcfg : t.cfg = s.cfg :=
    step_keeps (P := fun u => u.cfg = s.cfg) (fun _ _ => id) (fun _ _ => id) (fun _ _ => id)
      (fun _ _ _ hp => hp.cfg_eq.trans) rfl h
  exact ⟨hcfg, fun a => by rw [hcfg], memory_wf_of_cfg_eq hcfg⟩

end

-- The secondary duration (42_pwm_duty_update.md) and the complementary pairs of the table (41_sine_table_lookup.md).
section

namespace Sys2Proof.Machine

theorem toNat_secondary_onesComplement (s : Sample) : (secondary .onesComplement s).toNat = 255 - s.toNat :=
  BitVec.toNat_not

theorem toNat_secondary_twosNegation (s : Sample) : (secondary .twosNegation s).toNat = (256 - s.toNat) % 256 :=
  BitVec.toNat_neg s

theorem secondary_eq (law : SecondaryLaw) (s : Sample) :
    secondary law s = if law = .onesComplement then BitVec.ofNat 8 (255 - s.toNat)
      else BitVec.ofNat 8 ((256 - s.toNat) % 256) := by
  apply BitVec.eq_of_toNat_eq
  cases law with
  | onesComplement =>
    rw [toNat_secondary_onesComplement, if_pos rfl, BitVec.toNat_ofNat]
    omega
  | twosNegation =>
    rw [toNat_secondary_twosNegation, if_neg nofun, BitVec.toNat_ofNat]
    omega

theorem sum_secondary_onesComplement (s : Sample) : s.toNat + (secondary .onesComplement s).toNat = 255 := by
  rw [toNat_secondary_onesComplement]
  omega

/-- Two samples with sum 255 are complements: no bit carries (41_sine_table_lookup.md R74). -/
theorem eq_not_of_sum {a b : Sample} (h : a.toNat + b.toNat = 255) : b = ~~~ a := by
  apply BitVec.eq_of_toNat_eq
  rw [BitVec.toNat_not]
  omega

theorem ne_of_sum {a b : Sample} (h : a.toNat + b.toNat = 255) : a ≠ b := by
  rintro rfl
  omega

/-- An even L is twice its half. -/
theorem add_half_half {c : Config} (hc : c.shapeOk = true) {i : Nat} (hi : i < c.L) :
    ((i + c.H) % c.L + c.H) % c.L = i := by
  have heven : c.L % 2 = 0 := (shapeOk_iff.mp hc).1.1
  have hsum : i + c.H + c.H = i + c.L := by
    unfold Config.H
    omega
  rw [Nat.mod_add_mod, hsum, Nat.add_mod_right, Nat.mod_eq_of_lt hi]

theorem half_lt {c : Config} (hc : c.shapeOk = true) : c.H < c.L := by
  have := two_le_length_of_shapeOk hc
  unfold Config.H
  omega

theorem symmetric_of_ok {c : Config} (h : c.ok = true) : c.symmetric = true := ((Bool.and_eq_true _ _).mp h).2

/-- The symmetry law on the values of the read port. -/
theorem tableRead_pair {c : Config} (h : c.ok = true) {i : Nat} (hi : i < c.L) :
    ∃ a b, tableRead c i = some a ∧ tableRead c ((i + c.H) % c.L) = some b ∧ a.toNat + b.toNat = 255 := by
  obtain ⟨a, b, ha, hb, hsum⟩ := symmetric_sum (symmetric_of_ok h) hi
  have hj : (i + c.H) % c.L < c.L := Nat.mod_lt _ (Nat.zero_lt_of_lt hi)
  exact ⟨a, b, tableRead_eq_some.mpr ⟨hi, ha⟩, tableRead_eq_some.mpr ⟨hj, hb⟩, hsum⟩

theorem tableRead_idx_of_inv {s : State} (h : s.Inv) : tableRead s.cfg s.idx = some s.smp :=
  tableRead_eq_some.mpr ⟨h.1, h.2.1⟩

/-! ### The pairs under the complement law -/

theorem Performs.pairsComplementary {s t : State} {i : Instr} (h : Performs s i t)
    (hlaw : s.cfg.law = .onesComplement) (hs : s.PairsComplementary) : t.PairsComplementary := by
  obtain ⟨hbuf, hact⟩ := hs
  cases h with
  | reset => exact ⟨nofun, nofun⟩
  | signal | lookup => exact ⟨hbuf, hact⟩
  | commit _ _ _ hb hq =>
    refine ⟨hbuf, fun p q hp hq' => ?_⟩
    cases hp
    cases hq'
    exact hbuf _ _ hb hq
  | cycle =>
    refine ⟨fun p q hp hq => ?_, hact⟩
    cases hp
    cases hq
    rw [hlaw]
    exact sum_secondary_onesComplement s.smp

end Sys2Proof.Machine

open Sys2Proof Sys2Proof.Machine

/-- Settles O30: the complement and the negation of an 8-bit value as numbers. -/
theorem secondaryValuesOfBothLaws : Obligations.SecondaryValuesOfBothLaws := by
  intro s
  have hones := toNat_secondary_onesComplement s
  have htwos := toNat_secondary_twosNegation s
  refine ⟨hones, htwos, by omega, fun h => ?_⟩
  rw [h] at hones
  omega

/-- Settles O31: linear arithmetic on those numbers. -/
theorem differentialOfThePhases : Obligations.DifferentialOfThePhases := by
  intro s
  have hones := toNat_secondary_onesComplement s
  have htwos := toNat_secondary_twosNegation s
  dsimp only
  omega

/-- Settles O32: the buffers hold the sample and its secondary. -/
theorem cycleObeysTheComplementLaw : Obligations.CycleObeysTheComplementLaw := by
  intro lf s t h ht
  cases (performs_of_live h ht).2 with
  | cycle =>
    refine ⟨_, _, rfl, rfl, fun hlaw => ?_, fun hlaw => ?_⟩
    · rw [hlaw]
      exact ⟨sum_secondary_onesComplement s.smp, rfl⟩
    · rw [hlaw, toNat_secondary_twosNegation]
      omega

/-- Settles O33: SMP is the entry at IDX, and the entry half a period on is its complement. -/
theorem secondaryIsTheSampleHalfAPeriodAway : Obligations.SecondaryIsTheSampleHalfAPeriodAway := by
  intro lf s t hok hinv h ht
  obtain ⟨a, b, ha, hb, hsum⟩ := tableRead_pair hok hinv.1
  rw [tableRead_idx_of_inv hinv] at ha
  cases ha
  cases (performs_of_live h ht).2 with
  | cycle =>
    refine ⟨b, _, hb, rfl, fun hlaw => ?_, fun hlaw => ?_⟩
    · rw [hlaw]
      exact (eq_not_of_sum hsum).symm
    · rw [hlaw, toNat_secondary_twosNegation]
      omega

/-- Settles O16: the two entries of a pair sum to 255. -/
theorem tableEntriesComeInComplementaryPairs : Obligations.TableEntriesComeInComplementaryPairs := by
  intro c hok
  have hshape := shapeOk_of_ok hok
  refine ⟨fun i hi => ?_, ?_⟩
  · obtain ⟨a, b, ha, hb, hsum⟩ := tableRead_pair hok hi
    exact ⟨a, b, ha, hb, eq_not_of_sum hsum, ne_of_sum hsum, add_half_half hshape hi⟩
  · have hhalf : (0 + c.H) % c.L = c.L / 2 := by
      rw [Nat.zero_add, Nat.mod_eq_of_lt (half_lt hshape), Config.H]
    obtain ⟨a, b, ha, hb, hsum⟩ := tableRead_pair hok (i := 0) (Nat.zero_lt_of_lt (half_lt hshape))
    rw [hhalf] at hb
    simp only [ha, hb, Option.some.injEq, ← BitVec.toNat_inj, BitVec.ofNat_eq_ofNat, BitVec.toNat_ofNat]
    omega

/-- Settles O17: the table has exactly L entries, and a wrapped index is below L. -/
theorem tableHasAValueExactlyBelowItsLength : Obligations.TableHasAValueExactlyBelowItsLength := by
  intro c hok
  have hshape := shapeOk_of_ok hok
  have hL : 0 < c.L := Nat.zero_lt_of_lt (half_lt hshape)
  refine ⟨fun i => ⟨fun ⟨v, hv⟩ => (tableRead_eq_some.mp hv).1, tableRead_of_lt (entriesOk_of_shapeOk hshape)⟩,
    fun i => tableRead_of_lt (entriesOk_of_shapeOk hshape) (Nat.mod_lt _ hL)⟩

/-- Settles O48: CYCLE writes a complementary pair, the commit copies one, RESET leaves both pairs unwritten. -/
theorem durationPairsStayComplementary : Obligations.DurationPairsStayComplementary := by
  intro s t hlaw hs h
  have hkeep : t.cfg.law = .onesComplement ∧ t.PairsComplementary :=
    step_keeps (P := fun u => u.cfg.law = .onesComplement ∧ u.PairsComplementary) (fun _ _ => id) (fun _ _ => id)
      (fun _ _ => id) (fun _ _ _ hp ⟨hl, hpairs⟩ => ⟨hp.cfg_eq ▸ hl, hp.pairsComplementary hl hpairs⟩) ⟨hlaw, hs⟩ h
  exact hkeep.2

end

-- The checks before the first operation (00_scope.md section 3, 60_exceptions.md R118) and the reference design.
section

namespace Sys2Proof.Machine

theorem symmetric_iff {c : Config} :
    c.symmetric = true ↔ ∀ i < c.L, ∃ a b : Sample,
      c.table[i]? = some a ∧ c.table[(i + c.L / 2) % c.L]? = some b ∧ a.toNat + b.toNat = 255 := by
  constructor
  · exact fun h i hi => symmetric_sum h hi
  · intro h
    refine List.all_eq_true.mpr fun i hi => ?_
    obtain ⟨a, b, ha, hb, hsum⟩ := h i (List.mem_range.mp hi)
    simp [Config.phaseComplement, Config.H, ha, hb, hsum]

/-- The configuration check is the conjunction of the constraints of 00_scope.md R9. -/
theorem ok_iff {c : Config} :
    c.ok = true ↔ (c.L % 2 = 0 ∧ 2 ≤ c.L ∧ c.L ≤ 4096) ∧ (1 ≤ c.R ∧ c.R ≤ 2 ^ c.CW - 1) ∧
      (c.SW = 8 ∧ c.DW = 8) ∧ c.table.length = c.L ∧
      (∀ i < c.L, ∃ a b : Sample,
        c.table[i]? = some a ∧ c.table[(i + c.L / 2) % c.L]? = some b ∧ a.toNat + b.toNat = 255) ∧
      2 ^ c.IW ≥ c.L := by
  rw [Config.ok, Bool.and_eq_true, shapeOk_iff, symmetric_iff]
  tauto

theorem startRun_of_not_ok {s : State} (hr : s.refused = none) (hc : s.cfg.ok ≠ true) :
    startRun s = refuse .badConfig s := by
  simp [startRun, hr, hc]

theorem startRun_of_bad_start {s : State} (hr : s.refused = none) (hc : s.cfg.ok = true) (hs : s.started = true)
    (hbad : ¬ (s.fault = none ∧ s.Inv)) : startRun s = refuse .badStart s := by
  have hcheck : (invCheck s && s.fault.isNone) = false := by
    rw [Bool.eq_false_iff, ne_eq, Bool.and_eq_true, invCheck_iff, Option.isNone_iff_eq_none, and_comm]
    exact hbad
  simp [startRun, hr, hc, hs, hcheck]

theorem startRun_of_good {s : State} (hr : s.refused = none) (hc : s.cfg.ok = true)
    (hgood : s.started = true → s.fault = none ∧ s.Inv) : startRun s = s := by
  cases hs : s.started with
  | false => simp [startRun, hr, hc, hs]
  | true =>
    obtain ⟨hf, hinv⟩ := hgood hs
    simp [startRun, hr, hc, hs, hf, invCheck_iff.mpr hinv]

/-! ### The reference design -/

/-- The first half of the reference table is free (41_sine_table_lookup.md R73). -/
theorem referenceTable_first {i : Nat} (h : i < 193) :
    Config.referenceTable[i]? = some (Config.freeHalfSample i) := by
  simp [Config.referenceTable, List.getElem?_append, h]

/-- The second half is its complement. -/
theorem referenceTable_second {i : Nat} (h : i < 193) :
    Config.referenceTable[i + 193]? = some (~~~ Config.freeHalfSample i) := by
  simp [Config.referenceTable, List.getElem?_append, h]

theorem reference_symmetric : Config.reference.symmetric = true := by
  refine symmetric_iff.mpr fun i hi => ?_
  change i < 386 at hi
  change ∃ a b : Sample, Config.referenceTable[i]? = some a ∧ Config.referenceTable[(i + 193) % 386]? = some b ∧ _
  by_cases hlow : i < 193
  · rw [Nat.mod_eq_of_lt (by omega : i + 193 < 386)]
    exact ⟨_, _, referenceTable_first hlow, referenceTable_second hlow, sum_secondary_onesComplement _⟩
  · obtain ⟨j, rfl⟩ := Nat.exists_eq_add_of_le' (Nat.le_of_not_lt hlow)
    have hj : j < 193 := by omega
    have hwrap : (j + 193 + 193) % 386 = j := by omega
    rw [hwrap]
    exact ⟨_, _, referenceTable_second hj, referenceTable_first hj,
      (Nat.add_comm _ _).trans (sum_secondary_onesComplement _)⟩

theorem reference_shapeOk : Config.reference.shapeOk = true := by
  have hlength : Config.reference.table.length = Config.reference.L := of_decide_eq_true reset_memory_wf
  exact shapeOk_iff.mpr ⟨by decide, by decide, by decide, by decide, hlength⟩

theorem reference_ok : Config.reference.ok = true := by
  rw [Config.ok, reference_shapeOk, reference_symmetric]
  rfl

theorem reset_inv : State.reset.Inv :=
  ⟨by decide, referenceTable_first (by decide), by decide, by decide, nofun⟩

/-! ### RESET -/

/-- RESET where its gate passes, over a configuration of the right shape (70_reset_and_hazards.md R131). -/
theorem exec_reset_of_shapeOk {s : State} (hl : s.Live) (hs : s.started = false) (hc : s.cfg.shapeOk = true) :
    ∃ v, tableRead s.cfg 0 = some v ∧ exec .reset s = .next (startup v s) := by
  obtain ⟨v, hv⟩ := tableRead_of_lt (entriesOk_of_shapeOk hc) (Nat.zero_lt_of_lt (half_lt hc))
  exact ⟨v, hv, (Performs.reset hs hc hv).exec_eq hl⟩

/-- The reset values, the entry of the table, the configuration and the waiting words are all that `startup` leaves. -/
theorem startup_eq_of_cfg_of_ops {s s' : State} (v : Sample) (hc : s.cfg = s'.cfg) (ho : s.ops = s'.ops) :
    startup v s = startup v s' := by
  simp [startup, hc, ho]

end Sys2Proof.Machine

open Sys2Proof Sys2Proof.Machine

/-- Settles O13: the two checks as the conditions they test, in their order. -/
theorem startCheckRefusesBadConfigurationsAndStarts : Obligations.StartCheckRefusesBadConfigurationsAndStarts := by
  intro s hr
  dsimp only
  rw [← ok_iff]
  exact ⟨startRun_of_not_ok hr, startRun_of_bad_start hr, startRun_of_good hr⟩

/-- Settles O14: the second half of the table is made of complements, so the symmetry law holds for every choice of the
first half. -/
theorem referenceDesignIsAdmitted : Obligations.ReferenceDesignIsAdmitted :=
  ⟨reference_ok, startRun_of_good rfl reference_ok fun _ => ⟨rfl, reset_inv⟩⟩

/-- Settles O15: evaluation, and CARRIER_HZ by its definition. -/
theorem referenceFigures : Obligations.ReferenceFigures :=
  ⟨rfl, rfl, by decide, by decide, rfl, rfl, rfl, rfl⟩

/-- Settles O18. -/
theorem resetInitialisesEveryField : Obligations.ResetInitialisesEveryField := by
  refine ⟨rfl, fun s hl hs hok => ?_⟩
  obtain ⟨v, hv, hexec⟩ := exec_reset_of_shapeOk hl hs (shapeOk_of_ok hok)
  exact ⟨v, (tableRead_eq_some.mp hv).2, hexec⟩

/-- Settles O19: on the reference configuration the entry RESET loads is the first free sample. -/
theorem resetStateIsWhatResetEstablishes : Obligations.ResetStateIsWhatResetEstablishes := by
  intro s hl hs hcfg hops
  have hshape : s.cfg.shapeOk = true := hcfg ▸ reference_shapeOk
  obtain ⟨v, hv, hexec⟩ := exec_reset_of_shapeOk hl hs hshape
  have hentry : tableRead s.cfg 0 = some (Config.freeHalfSample 0) :=
    hcfg ▸ tableRead_eq_some.mpr ⟨by decide, referenceTable_first (by decide)⟩
  cases hv.symm.trans hentry
  rw [hexec, startup_eq_of_cfg_of_ops (s' := State.reset) _ hcfg hops]
  rfl

/-- Settles O20: RESET leaves nothing of the state but the configuration and the waiting words, which power-up gives. -/
theorem resetForgetsWhatWasThere : Obligations.ResetForgetsWhatWasThere := by
  intro c ops lost lost' hok
  have hshape : c.shapeOk = true := shapeOk_of_ok hok
  obtain ⟨v, hv⟩ := tableRead_of_lt (entriesOk_of_shapeOk hshape) (Nat.zero_lt_of_lt (half_lt hshape))
  have hreset (l : State) : exec .reset (powerUp c l ops) = .next (startup v (powerUp c l ops)) :=
    (Performs.reset (s := powerUp c l ops) rfl hshape hv).exec_eq ⟨rfl, rfl⟩
  have hsame : startup v (powerUp c lost' ops) = startup v (powerUp c lost ops) := startup_eq_of_cfg_of_ops v rfl rfl
  exact ⟨_, hreset lost, hsame ▸ hreset lost', ⟨⟨rfl, rfl⟩, rfl⟩, inv_startup hshape hv⟩

/-- Settles O46. -/
theorem resetStateMeetsTheInvariant : Obligations.ResetStateMeetsTheInvariant :=
  ⟨⟨⟨rfl, rfl⟩, rfl⟩, fun _ => ⟨reference_shapeOk, reset_inv⟩, reset_inv⟩

/-- Settles O47: INV bounds IDX by L and CNT by R, and the constraints of 00_scope.md R9 bound these by the widths. -/
theorem indexAndCounterFitTheirWidths : Obligations.IndexAndCounterFitTheirWidths := by
  intro s hs hinv
  obtain ⟨hshape, hidx, -, -, hcnt, -⟩ := hinv hs
  obtain ⟨-, ⟨hpos, hR⟩, hL, -⟩ := shapeOk_iff.mp hshape
  exact ⟨by omega, by omega⟩

/-- Settles O49: an observation reads the port's content, and RESET leaves all five ports unwritten. -/
theorem unwrittenPortsGiveNoValue : Obligations.UnwrittenPortsGiveNoValue := by
  refine ⟨fun p s h => ?_, fun p s v h => ?_, fun p => ?_⟩
  · simp [observe, h]
  · simp [observe, h]
  · cases p <;> rfl

end

-- The operations in the states of an admitted run: the table read port and the handler.
section

namespace Sys2Proof.Machine

/-- A state an admitted run can be in after RESET: ready, over an admitted configuration, and inside INV
(70_reset_and_hazards.md R133). -/
structure State.Admitted (s : State) : Prop where
  ready : s.Ready
  ok : s.cfg.ok = true
  inv : s.Inv

theorem State.Admitted.shapeOk {s : State} (h : s.Admitted) : s.cfg.shapeOk = true := shapeOk_of_ok h.ok

theorem State.Admitted.cnt_pos {s : State} (h : s.Admitted) : 1 ≤ s.cnt := by
  obtain ⟨-, -, hpos, -⟩ := h.inv
  exact hpos

theorem State.Admitted.cnt_le {s : State} (h : s.Admitted) : s.cnt ≤ s.cfg.R := by
  obtain ⟨-, -, -, hle, -⟩ := h.inv
  exact hle

theorem Performs.started {s t : State} {i : Instr} (h : Performs s i t) : t.started = true := by
  cases h with
  | reset => rfl
  | signal hs | commit hs | cycle hs | lookup hs => exact hs

theorem Performs.admitted {s t : State} {i : Instr} (h : Performs s i t) (hs : s.Admitted) : t.Admitted where
  ready := ⟨h.live hs.ready.1, h.started⟩
  ok := h.cfg_eq ▸ hs.ok
  inv := (h.runInv (fun _ => ⟨hs.shapeOk, hs.inv⟩) h.started).2

/-! ### IDX and CNT after steps 4 and 5, by the cases of 43_frequency_correction_counter.md R94 -/

theorem nextIndex_nextIndex (c : Config) (i : Nat) : nextIndex c (nextIndex c i) = (i + 2) % c.L := by
  unfold nextIndex
  rw [Nat.mod_add_mod]

@[simp] theorem newIdx_true (s : State) : newIdx true s = (s.idx + 1) % s.cfg.L := rfl

@[simp] theorem newCnt_true (s : State) : newCnt true s = s.cnt := rfl

theorem newIdx_false_of_one_lt {s : State} (h : 1 < s.cnt) : newIdx false s = (s.idx + 1) % s.cfg.L :=
  if_neg fun hskip => by omega

theorem newCnt_false_of_one_lt {s : State} (h : 1 < s.cnt) : newCnt false s = s.cnt - 1 :=
  if_neg (by omega : s.cnt - 1 ≠ 0)

theorem newIdx_false_of_eq_one {s : State} (h : s.cnt = 1) : newIdx false s = (s.idx + 2) % s.cfg.L := by
  rw [← nextIndex_nextIndex]
  exact if_pos ⟨rfl, by omega⟩

theorem newCnt_false_of_eq_one {s : State} (h : s.cnt = 1) : newCnt false s = s.cfg.R :=
  if_pos (by omega : s.cnt - 1 = 0)

/-- The two cases of the index as the condition of a skip. -/
theorem newIdx_eq {s : State} (h : 1 ≤ s.cnt) (lf : Bool) :
    newIdx lf s = (s.idx + if (!lf && s.cnt == 1) = true then 2 else 1) % s.cfg.L := by
  cases lf with
  | true => rfl
  | false =>
    by_cases h1 : s.cnt = 1
    · simp [newIdx_false_of_eq_one h1, h1]
    · simp [newIdx_false_of_one_lt (Nat.lt_of_le_of_ne h (Ne.symm h1)), h1]

theorem newCnt_eq {s : State} (h : 1 ≤ s.cnt) (lf : Bool) :
    newCnt lf s = if lf = true then s.cnt else if (!lf && s.cnt == 1) = true then s.cfg.R else s.cnt - 1 := by
  cases lf with
  | true => rfl
  | false =>
    by_cases h1 : s.cnt = 1
    · simp [newCnt_false_of_eq_one h1, h1]
    · simp [newCnt_false_of_one_lt (Nat.lt_of_le_of_ne h (Ne.symm h1)), h1]

/-! ### What is performed in a ready state -/

theorem performs_lookup {s : State} {idx : TableIndex} (hs : s.started = true) (hc : s.cfg.shapeOk = true)
    (hi : idx.toNat < s.cfg.L) :
    ∃ v, tableRead s.cfg idx.toNat = some v ∧ Performs s (.lookup idx) (latchData v s) := by
  obtain ⟨v, hv⟩ := tableRead_of_lt (entriesOk_of_shapeOk hc) hi
  exact ⟨v, hv, .lookup hs hi hv⟩

/-- BOUNDARY that finds no invocation owed, whether or not a commit is requested (44_cycle_handler.md R103, R104). -/
def afterBoundary (s : State) : State :=
  { s with
    priAct := if s.creq then s.priBuf else s.priAct, secAct := if s.creq then s.secBuf else s.secAct,
    creq := false, pend := true }

theorem afterBoundary_of_creq {s : State} {p q : Sample} (hc : s.creq = true) (hp : s.priBuf = some p)
    (hq : s.secBuf = some q) : afterBoundary s = signalCycle (commitPair p q s) := by
  simp [afterBoundary, signalCycle, commitPair, clearRequest, hc, hp, hq]

theorem afterBoundary_of_no_creq {s : State} (hc : s.creq = false) : afterBoundary s = signalCycle s := by
  simp [afterBoundary, signalCycle, hc]

/-- Under INV the buffers of a requested commit are written. -/
theorem exists_buffers {s : State} (h : s.Inv) (hc : s.creq = true) :
    ∃ p q, s.priBuf = some p ∧ s.secBuf = some q := by
  obtain ⟨-, -, -, -, hbuf⟩ := h
  obtain ⟨hp, hq⟩ := hbuf hc
  obtain ⟨p, hp⟩ := Option.ne_none_iff_exists'.mp hp
  obtain ⟨q, hq⟩ := Option.ne_none_iff_exists'.mp hq
  exact ⟨p, q, hp, hq⟩

theorem performs_boundary {s : State} (hs : s.started = true) (hinv : s.Inv) (hp : s.pend = false) :
    Performs s .boundary (afterBoundary s) := by
  cases hc : s.creq with
  | false =>
    rw [afterBoundary_of_no_creq hc]
    exact .signal hs hp hc
  | true =>
    obtain ⟨p, q, hb, hq⟩ := exists_buffers hinv hc
    exact afterBoundary_of_creq hc hb hq ▸ .commit hs hp hc hb hq

/-- CYCLE that finds an invocation owed, `v` being the entry at the new index (44_cycle_handler.md R99). -/
def afterCycle (lf : Bool) (v : Sample) (s : State) : State :=
  { s with
    priBuf := some s.smp, secBuf := some (secondary s.cfg.law s.smp), creq := true,
    idx := newIdx lf s, cnt := newCnt lf s, smp := v, pend := false }

theorem performs_cycle {s : State} (hs : s.started = true) (hc : s.cfg.shapeOk = true) (hinv : s.Inv)
    (hp : s.pend = true) (lf : Bool) :
    ∃ v, tableRead s.cfg (newIdx lf s) = some v ∧
      Performs s (.cycle lf) (afterCycle lf v s) := by
  obtain ⟨v, hv⟩ := exists_tableRead_newIdx hc lf
  exact ⟨v, hv, .cycle hs hp (generatorInRange_of_inv hinv) hv⟩

/-- Steps 4 to 6 over an admitted configuration. -/
theorem advance_eq_some {s : State} (hc : s.cfg.shapeOk = true) (lf : Bool) :
    ∃ v, tableRead s.cfg (newIdx lf s) = some v ∧
      advance lf s = some { s with idx := newIdx lf s, cnt := newCnt lf s, smp := v } := by
  obtain ⟨v, hv⟩ := exists_tableRead_newIdx hc lf
  exact ⟨v, hv, by rw [advance_eq, hv]; rfl⟩

theorem runOps_cons {i : Instr} {s t : State} (h : exec i s = .next t) (is : List Instr) :
    runOps (i :: is) s = runOps is t := by
  simp [runOps, h]

end Sys2Proof.Machine

open Sys2Proof Sys2Proof.Machine

/-- Settles O21: below L the table has an entry, at or beyond L the operation meets its fault condition. -/
theorem lookupReadsTheEntryOrFaults : Obligations.LookupReadsTheEntryOrFaults := by
  refine fun idx s hr hok => ⟨rfl, fun hi => ?_, fun hi => (Faults.index hr.2 hi).exec_eq hr.1⟩
  obtain ⟨v, hv, hp⟩ := performs_lookup hr.2 (shapeOk_of_ok hok) hi
  exact ⟨v, (tableRead_eq_some.mp hv).2, hp.exec_eq hr.1⟩

/-- Settles O22: LOOKUP writes TDATA and does not read it, so the second one finds the same entry. -/
theorem lookupIsIdempotent : Obligations.LookupIsIdempotent := by
  intro idx s t h ht
  cases (performs_of_live h ht).2 with
  | lookup hs hi hv => exact (Performs.lookup (s := latchData _ s) hs hi hv).exec_eq ht

/-- Settles O23: neither operation reads a field the other writes. -/
theorem lookupCommutesWithCycle : Obligations.LookupCommutesWithCycle := by
  intro idx lf s hr hok hinv hp hi
  obtain ⟨hl, hs⟩ := hr
  have hc := shapeOk_of_ok hok
  obtain ⟨v, hv, hlook⟩ := performs_lookup hs hc hi
  obtain ⟨w, hw, hcyc⟩ := performs_cycle hs hc hinv hp lf
  have hcyc' : Performs (latchData v s) (.cycle lf) (latchData v (afterCycle lf w s)) :=
    .cycle hs hp (generatorInRange_of_inv hinv) hw
  have hlook' : Performs (afterCycle lf w s) (.lookup idx) (latchData v (afterCycle lf w s)) := .lookup hs hi hv
  exact ⟨_, runOps_cons (hlook.exec_eq hl) _ |>.trans (runOps_cons (hcyc'.exec_eq hl) []),
    runOps_cons (hcyc.exec_eq hl) _ |>.trans (runOps_cons (hlook'.exec_eq hl) []), hl⟩

/-- Settles O24: the new index and counter by the case of LF and CNT, the secondary by the law. -/
theorem cyclePerformsTheSevenSteps : Obligations.CyclePerformsTheSevenSteps := by
  intro lf s hr hok hinv
  have hpos : 1 ≤ s.cnt := (State.Admitted.mk hr hok hinv).cnt_pos
  dsimp only
  refine ⟨by cases lf <;> rfl, fun hp => ?_, fun hp => exec_cycle_not_pending hr hp lf⟩
  obtain ⟨v, hv, hperf⟩ := performs_cycle hr.2 (shapeOk_of_ok hok) hinv hp lf
  rw [← newIdx_eq hpos, ← newCnt_eq hpos, ← secondary_eq]
  exact ⟨v, (tableRead_eq_some.mp hv).2, hperf.exec_eq hr.1⟩

/-- Settles O27: the invocation leaves PEND 0 and both buffers written, which is all BOUNDARY asks for. -/
theorem handlerReturnAllowsTheNextBoundary : Obligations.HandlerReturnAllowsTheNextBoundary := by
  intro lf s t h ht
  cases (performs_of_live h ht).2 with
  | cycle hs => exact ⟨rfl, _, Performs.exec_eq (.commit hs rfl rfl rfl rfl) ht, ht, rfl⟩

/-- Settles O28: `DutyUpdate` by its definition, `Advance` by the three cases of LF and CNT. -/
theorem dutyUpdateAndAdvance : Obligations.DutyUpdateAndAdvance := by
  intro lf s hok hinv
  obtain ⟨v, hv, hadv⟩ := advance_eq_some (shapeOk_of_ok hok) lf
  refine ⟨rfl, ?_, ?_, ?_⟩
  · rintro rfl
    exact ⟨v, hv, hadv⟩
  · rintro rfl hcnt
    rw [newIdx_false_of_one_lt hcnt] at hv hadv
    rw [newCnt_false_of_one_lt hcnt] at hadv
    exact ⟨v, hv, hadv⟩
  · rintro rfl hcnt
    rw [newIdx_false_of_eq_one hcnt] at hv hadv
    rw [newCnt_false_of_eq_one hcnt] at hadv
    exact ⟨v, hv, hadv⟩

/-- Settles O34: under INV the requested commit finds both buffers written. -/
theorem boundaryCommitsThenSignals : Obligations.BoundaryCommitsThenSignals := by
  refine ⟨rfl, fun s hr hinv hp => ⟨fun hc => ?_, fun hc => ?_⟩⟩
  · obtain ⟨p, q, hb, hq⟩ := exists_buffers hinv hc
    exact ⟨p, q, hb, hq, (Performs.commit hr.2 hp hc hb hq).exec_eq hr.1⟩
  · exact (Performs.signal hr.2 hp hc).exec_eq hr.1

/-- Settles O35. -/
theorem deadlineMissFaults : Obligations.DeadlineMissFaults := fun _ hr hp => (Faults.deadline hr.2 hp).exec_eq hr.1

end

-- Runs of the handler: which schedules complete, and where IDX and CNT stand after ticks (44_cycle_handler.md section 4,
-- 43_frequency_correction_counter.md sections 1 and 3).
section

namespace Sys2Proof.Machine

/-! ### Which sequences of operations complete -/

/-- After a mark nothing completes. -/
theorem not_completes_of_not_live {s : State} (h : ¬ s.Live) (is : List Instr) : ¬ completes (runOps is s) := by
  rintro ⟨t, ht, hl⟩
  cases is with
  | nil =>
    cases ht
    exact h hl
  | cons i is =>
    cases he : exec i s with
    | next u => exact h (exec_next he).1
    | fault r => simp [runOps, he] at ht
    | refused r => simp [runOps, he] at ht

theorem not_completes_of_marked {i : Instr} {s t : State} (he : exec i s = .next t) (ht : ¬ t.Live) (is : List Instr) :
    ¬ completes (runOps (i :: is) s) := by
  rw [runOps_cons he]
  exact not_completes_of_not_live ht is

theorem tickSchedule_lookup (pend : Bool) (idx : TableIndex) (is : List Instr) :
    tickSchedule pend (.lookup idx :: is) = tickSchedule pend is := by
  cases pend <;> rfl

theorem completes_iff_tickSchedule {L : Nat} (is : List Instr)
    (hin : ∀ idx : TableIndex, Instr.lookup idx ∈ is → idx.toNat < L) :
    ∀ s : State, s.Admitted → s.cfg.L = L → (completes (runOps is s) ↔ tickSchedule s.pend is = true) := by
  induction is with
  | nil => exact fun s hs _ => ⟨fun _ => rfl, fun _ => ⟨s, rfl, hs.ready.1⟩⟩
  | cons i is ih =>
    intro s hs hL
    obtain ⟨hl, hst⟩ := hs.ready
    have hrest := ih fun idx h => hin idx (.tail _ h)
    have hstep {t : State} (hp : Performs s i t) :
        completes (runOps (i :: is) s) ↔ tickSchedule t.pend is = true := by
      rw [runOps_cons (hp.exec_eq hl)]
      exact hrest t (hp.admitted hs) (hp.cfg_eq ▸ hL)
    cases i with
    | reset => exact iff_of_false (not_completes_of_marked (exec_late_reset hs.ready) (not_live_refuse _ _) _) nofun
    | lookup idx =>
      obtain ⟨v, -, hp⟩ := performs_lookup hst hs.shapeOk (hL ▸ hin idx (.head _))
      rw [hstep hp, latchData_pend, tickSchedule_lookup]
    | boundary =>
      cases hpend : s.pend with
      | true =>
        have hf := (Faults.deadline hst hpend).exec_eq hl
        exact iff_of_false (not_completes_of_marked hf (not_live_raise _ _) _) nofun
      | false => exact hstep (performs_boundary hst hs.inv hpend)
    | cycle lf =>
      cases hpend : s.pend with
      | true =>
        obtain ⟨v, -, hp⟩ := performs_cycle hst hs.shapeOk hs.inv hpend lf
        exact hstep hp
      | false =>
        have hr := exec_cycle_not_pending hs.ready hpend lf
        exact iff_of_false (not_completes_of_marked hr (not_live_refuse _ _) _) nofun

/-! ### One tick -/

/-- The state after BOUNDARY and the CYCLE it owes. -/
def afterTick (lf : Bool) (v : Sample) (s : State) : State := afterCycle lf v (afterBoundary s)

/-- A tick from a state that owes no invocation: BOUNDARY does not touch the Generator State, so CYCLE moves it from where
it stood before the tick. -/
theorem performs_tick {s : State} (hs : s.Admitted) (hp : s.pend = false) (lf : Bool) :
    Performs s .boundary (afterBoundary s) ∧
      ∃ v, Performs (afterBoundary s) (.cycle lf) (afterTick lf v s) ∧ (afterTick lf v s).Admitted := by
  have hb := performs_boundary hs.ready.2 hs.inv hp
  have hb' := hb.admitted hs
  obtain ⟨v, -, hc⟩ := performs_cycle hb'.ready.2 hb'.shapeOk hb'.inv rfl lf
  exact ⟨hb, v, hc, hc.admitted hb'⟩

theorem ticks_cons (lf : Bool) (lfs : List Bool) : ticks (lf :: lfs) = .boundary :: .cycle lf :: ticks lfs := rfl

/-! ### The skip count (43_frequency_correction_counter.md R92) -/

theorem skipCount_zero (R : Nat) {c : Nat} (h : 1 ≤ c) : skipCount R c 0 = 0 := if_pos h

/-- A full counter skips once in every R invocations. -/
theorem skipCount_full {R : Nat} (h : 1 ≤ R) (n : Nat) : skipCount R R n = n / R := by
  unfold skipCount
  split
  · exact (Nat.div_eq_of_lt ‹_›).symm
  · exact (Nat.div_eq_sub_div h (Nat.le_of_not_lt ‹_›)).symm

theorem skipCount_succ_of_eq_one {R : Nat} (h : 1 ≤ R) (n : Nat) :
    skipCount R 1 (n + 1) = skipCount R R n + 1 := by
  rw [skipCount_full h, skipCount, if_neg (by omega), Nat.add_sub_cancel]

theorem skipCount_succ_of_one_lt (R : Nat) {c : Nat} (h : 1 < c) (n : Nat) :
    skipCount R c (n + 1) = skipCount R (c - 1) n := by
  have hlt : n + 1 < c ↔ n < c - 1 := by omega
  have hsub : n + 1 - c = n - (c - 1) := by omega
  simp only [skipCount, hlt, hsub]

/-! ### IDX and CNT after ticks -/

/-- The skip-count law, by induction over the modes: each tick moves IDX and CNT by one of the three cases of R94. -/
theorem runOps_ticks (lfs : List Bool) : ∀ s : State, s.Admitted → s.pend = false →
    ∃ t, runOps (ticks lfs) s = .next t ∧ t.Admitted ∧ t.pend = false ∧ t.cfg = s.cfg ∧
      t.idx = (s.idx + lfs.length + skipCount s.cfg.R s.cnt (lfs.count false)) % s.cfg.L ∧
      t.cnt + lfs.count false = s.cnt + skipCount s.cfg.R s.cnt (lfs.count false) * s.cfg.R := by
  induction lfs with
  | nil =>
    intro s hs hp
    obtain ⟨hidx, -, hpos, -⟩ := hs.inv
    refine ⟨s, rfl, hs, hp, rfl, ?_, ?_⟩
    · simp [skipCount_zero _ hpos, Nat.mod_eq_of_lt hidx]
    · simp [skipCount_zero _ hpos]
  | cons lf lfs ih =>
    intro s hs hp
    obtain ⟨hb, v, hc, ht⟩ := performs_tick hs hp lf
    obtain ⟨t, hrun, hadm, hpend, hcfg, hidx, hcnt⟩ := ih _ ht rfl
    change t.idx = (newIdx lf s + _ + skipCount s.cfg.R (newCnt lf s) _) % s.cfg.L at hidx
    change t.cnt + _ = newCnt lf s + skipCount s.cfg.R (newCnt lf s) _ * s.cfg.R at hcnt
    refine ⟨t, ?_, hadm, hpend, hcfg, ?_⟩
    · rw [ticks_cons, runOps_cons (hb.exec_eq hs.ready.1), runOps_cons (hc.exec_eq hs.ready.1), hrun]
    cases lf with
    | true =>
      rw [List.count_cons_of_ne (by decide)]
      refine ⟨?_, hcnt⟩
      rw [hidx, newIdx_true, newCnt_true, Nat.add_assoc, Nat.mod_add_mod, List.length_cons]
      congr 1
      omega
    | false =>
      rw [List.count_cons_self, List.length_cons]
      obtain hone | hgt : s.cnt = 1 ∨ 1 < s.cnt := hs.cnt_pos.eq_or_lt.imp_left Eq.symm
      · rw [newCnt_false_of_eq_one hone] at hidx hcnt
        rw [hone, skipCount_succ_of_eq_one (hs.cnt_pos.trans hs.cnt_le)]
        refine ⟨?_, by rw [Nat.add_mul]; omega⟩
        rw [hidx, newIdx_false_of_eq_one hone, Nat.add_assoc, Nat.mod_add_mod]
        congr 1
        omega
      · rw [newCnt_false_of_one_lt hgt] at hidx hcnt
        rw [skipCount_succ_of_one_lt _ hgt]
        refine ⟨?_, by omega⟩
        rw [hidx, newIdx_false_of_one_lt hgt, Nat.add_assoc, Nat.mod_add_mod]
        congr 1
        omega

/-! ### Periods -/

theorem add_mod_eq_self_iff {L i : Nat} (hi : i < L) (m : Nat) : (i + m) % L = i ↔ L ∣ m := by
  rw [← Nat.add_modEq_left_iff (a := i), Nat.ModEq, Nat.mod_eq_of_lt hi]

/-- Two counters in `[1, R]` that differ by whole reloads are reloaded equally often. -/
theorem eq_of_add_mul_eq {R a b j k : Nat} (ha : 1 ≤ a ∧ a ≤ R) (hb : 1 ≤ b ∧ b ≤ R)
    (h : a + j * R = b + k * R) : j = k := by
  have hdiv {a j : Nat} (ha : 1 ≤ a ∧ a ≤ R) : (a - 1 + j * R) / R = j := by
    rw [Nat.add_mul_div_right _ _ (by omega), Nat.div_eq_of_lt (by omega), Nat.zero_add]
  rw [← hdiv (j := j) ha, ← hdiv (j := k) hb]
  congr 1
  omega

theorem dvd_mul_iff_div_gcd_dvd {L m : Nat} (hL : 0 < L) (k : Nat) : L ∣ k * m ↔ L / Nat.gcd m L ∣ k := by
  rw [Nat.mul_comm, ← Nat.dvd_gcd_mul_iff_dvd_mul, Nat.gcd_comm,
    Nat.div_dvd_iff_dvd_mul (Nat.gcd_dvd_right m L) (Nat.gcd_pos_of_pos_right m hL)]

end Sys2Proof.Machine

open Sys2Proof Sys2Proof.Machine

/-- Settles O50: in an admitted state each operation of a schedule performs its effect, and every other one in range
leaves a mark. -/
theorem exactlyTheTickSchedulesComplete : Obligations.ExactlyTheTickSchedulesComplete :=
  fun is s hr hok hinv hin => completes_iff_tickSchedule is hin s ⟨hr, hok, hinv⟩ rfl

/-- Settles O51. -/
theorem indexAndCounterAfterTicks : Obligations.IndexAndCounterAfterTicks := by
  intro lfs s hr hok hinv hp
  obtain ⟨t, hrun, hadm, hpend, hcfg, hidx, hcnt⟩ := runOps_ticks lfs s ⟨hr, hok, hinv⟩ hp
  exact ⟨t, hrun, hadm.ready, hadm.inv, hpend, hcfg, hidx, hcnt⟩

/-- Settles O52: with no invocation at LF = 0 there is no skip, and the index has moved one position for each tick. -/
theorem lowModePeriodIsTheTableLength : Obligations.LowModePeriodIsTheTableLength := by
  intro n s hr hok hinv hp
  obtain ⟨t, hrun, hadm, -, -, hidx, hcnt⟩ := runOps_ticks (List.replicate n true) s ⟨hr, hok, hinv⟩ hp
  obtain ⟨hlt, -, hpos, -⟩ := hinv
  have hcount : (List.replicate n true).count false = 0 := by simp [List.count_replicate]
  rw [hcount, skipCount_zero _ hpos] at hidx hcnt
  refine ⟨t, hrun, hadm.ready.1, by omega, ?_⟩
  rw [hidx, List.length_replicate]
  exact add_mod_eq_self_iff hlt n

/-- Settles O53: the counter is back exactly when `n` is `R` times the number `k` of skips, and then the index, moved by
`n + k = k (R + 1)` positions, is back exactly when `L / gcd(R + 1, L)` divides `k`. -/
theorem highModePeriodOfIndexAndCounter : Obligations.HighModePeriodOfIndexAndCounter := by
  intro n s hr hok hinv hp
  have hs : s.Admitted := ⟨hr, hok, hinv⟩
  obtain ⟨t, hrun, hadm, -, hcfg, hidx, hcnt⟩ := runOps_ticks (List.replicate n false) s hs hp
  refine ⟨t, hrun, hadm.ready.1, ?_⟩
  have hlt : s.idx < s.cfg.L := hinv.1
  have hrange' : 1 ≤ t.cnt ∧ t.cnt ≤ s.cfg.R := ⟨hadm.cnt_pos, hcfg ▸ hadm.cnt_le⟩
  have hL : 0 < s.cfg.L := Nat.zero_lt_of_lt hlt
  simp only [List.count_replicate_self, List.length_replicate, Nat.add_assoc] at hidx hcnt
  generalize skipCount s.cfg.R s.cnt n = k at hidx hcnt
  have hback : t.idx = s.idx ↔ s.cfg.L ∣ n + k := by rw [hidx, add_mod_eq_self_iff hlt]
  rw [hback, Nat.mul_div_assoc _ (Nat.gcd_dvd_right _ _)]
  constructor
  · rintro ⟨hdvd, hsame⟩
    have hn : n = k * s.cfg.R := by omega
    have hk : n + k = k * (s.cfg.R + 1) := by rw [hn, Nat.mul_succ]
    rw [hn, Nat.mul_comm k]
    exact Nat.mul_dvd_mul_left _ ((dvd_mul_iff_div_gcd_dvd hL k).mp (hk ▸ hdvd))
  · rintro ⟨m, rfl⟩
    rw [Nat.mul_assoc, Nat.mul_comm s.cfg.R] at hcnt ⊢
    obtain rfl := eq_of_add_mul_eq hrange' ⟨hs.cnt_pos, hs.cnt_le⟩ hcnt
    refine ⟨?_, by omega⟩
    rw [← Nat.mul_succ]
    exact (dvd_mul_iff_div_gcd_dvd hL _).mpr (Nat.dvd_mul_right _ m)

end

-- The committed output (44_cycle_handler.md R106, R107; 70_reset_and_hazards.md section 3).
section

namespace Sys2Proof.Machine

/-! ### What the operations of a tick commit -/

theorem commits_cons {i : Instr} {s t : State} (h : exec i s = .next t) (is : List Instr) :
    commits (i :: is) s = commitOf i s t ++ commits is t := by
  simp [commits, h]

theorem commitOf_cycle (lf : Bool) (s t : State) : commitOf (.cycle lf) s t = [] := rfl

theorem commitOf_boundary_of_no_creq {s : State} (hc : s.creq = false) (t : State) : commitOf .boundary s t = [] := by
  simp [commitOf, hc]

/-- The BOUNDARY after a CYCLE commits the sample cached before that CYCLE, with its secondary. -/
theorem commitOf_boundary_afterCycle (lf : Bool) (v : Sample) (s : State) :
    commitOf .boundary (afterCycle lf v s) (afterBoundary (afterCycle lf v s)) =
      [(s.smp, secondary s.cfg.law s.smp)] := rfl

/-- The first tick of a run commits what the last CYCLE before it left, and the rest of the run starts after it. -/
theorem commits_ticks_cons {s : State} (hs : s.Admitted) (hp : s.pend = false) (lf : Bool) (lfs : List Bool) :
    ∃ v, (afterTick lf v s).Admitted ∧
      commits (ticks (lf :: lfs) ++ [.boundary]) s =
        commitOf .boundary s (afterBoundary s) ++ commits (ticks lfs ++ [.boundary]) (afterTick lf v s) := by
  obtain ⟨hb, v, hc, ht⟩ := performs_tick hs hp lf
  refine ⟨v, ht, ?_⟩
  rw [ticks_cons, List.cons_append, List.cons_append, commits_cons (hb.exec_eq hs.ready.1),
    commits_cons (hc.exec_eq hs.ready.1), commitOf_cycle, List.nil_append]

theorem commits_no_ticks {s : State} (hs : s.Admitted) (hp : s.pend = false) :
    commits (ticks [] ++ [.boundary]) s = commitOf .boundary s (afterBoundary s) ++ [] :=
  commits_cons ((performs_boundary hs.ready.2 hs.inv hp).exec_eq hs.ready.1) []

/-! ### Positions -/

/-- The pair committed at a position of the index. -/
def pairAt (c : Config) (p : Nat) : Option (Sample × Sample) :=
  (tableRead c p).map fun v => (v, secondary c.law v)

theorem pairAt_idx_of_inv {s : State} (h : s.Inv) : pairAt s.cfg s.idx = some (s.smp, secondary s.cfg.law s.smp) := by
  rw [pairAt, tableRead_idx_of_inv h]
  rfl

theorem positions_false_of_eq_one (L R p : Nat) (lfs : List Bool) :
    positions L R p 1 (false :: lfs) = p :: positions L R ((p + 2) % L) R lfs := rfl

theorem positions_false_of_one_lt (L R p : Nat) {c : Nat} (h : 1 < c) (lfs : List Bool) :
    positions L R p c (false :: lfs) = p :: positions L R ((p + 1) % L) (c - 1) lfs :=
  congrArg (p :: ·) (if_neg (Nat.ne_of_gt h))

/-- The positions follow IDX and CNT through one invocation. -/
theorem positions_cons {s : State} (h : 1 ≤ s.cnt) (lf : Bool) (lfs : List Bool) :
    positions s.cfg.L s.cfg.R s.idx s.cnt (lf :: lfs) =
      s.idx :: positions s.cfg.L s.cfg.R (newIdx lf s) (newCnt lf s) lfs := by
  cases lf with
  | true => rfl
  | false =>
    obtain hone | hgt : s.cnt = 1 ∨ 1 < s.cnt := by omega
    · rw [newIdx_false_of_eq_one hone, newCnt_false_of_eq_one hone, hone, positions_false_of_eq_one]
    · rw [newIdx_false_of_one_lt hgt, newCnt_false_of_one_lt hgt, positions_false_of_one_lt _ _ _ hgt]

/-- The timeline, by induction over the modes: a state that owes no invocation first commits what its last CYCLE left,
and each tick leaves the pair at the index it starts from. -/
theorem commits_ticks (lfs : List Bool) : ∀ s : State, s.Admitted → s.pend = false →
    commits (ticks lfs ++ [.boundary]) s =
      commitOf .boundary s (afterBoundary s) ++
        (positions s.cfg.L s.cfg.R s.idx s.cnt lfs).filterMap (pairAt s.cfg) := by
  induction lfs with
  | nil => exact fun s hs hp => commits_no_ticks hs hp
  | cons lf lfs ih =>
    intro s hs hp
    obtain ⟨v, ht, hcommits⟩ := commits_ticks_cons hs hp lf lfs
    rw [hcommits, ih _ ht rfl, positions_cons hs.cnt_pos, List.filterMap_cons_some (pairAt_idx_of_inv hs.inv)]
    rfl

/-- One pair for each tick: every tick starts inside the table. -/
theorem length_commits_ticks (lfs : List Bool) : ∀ s : State, s.Admitted → s.pend = false →
    (commits (ticks lfs ++ [.boundary]) s).length =
      (commitOf .boundary s (afterBoundary s)).length + lfs.length := by
  induction lfs with
  | nil =>
    intro s hs hp
    rw [commits_no_ticks hs hp, List.append_nil, List.length_nil, Nat.add_zero]
  | cons lf lfs ih =>
    intro s hs hp
    obtain ⟨v, ht, hcommits⟩ := commits_ticks_cons hs hp lf lfs
    rw [hcommits, List.length_append, ih _ ht rfl, afterTick, commitOf_boundary_afterCycle, List.length_singleton,
      List.length_cons, Nat.add_comm 1]

/-! ### Positions in each mode -/

theorem positions_replicate_true {L : Nat} (R c n : Nat) : ∀ p < L,
    positions L R p c (List.replicate n true) = (List.range n).map fun k => (p + k) % L := by
  induction n with
  | zero => exact fun _ _ => rfl
  | succ n ih =>
    intro p hp
    have hL : 0 < L := Nat.zero_lt_of_lt hp
    rw [List.replicate_succ, positions, ih _ (Nat.mod_lt _ hL), List.range_succ_eq_map, List.map_cons, List.map_map]
    congr 1
    · exact (Nat.mod_eq_of_lt hp).symm
    · refine List.map_congr_left fun k _ => ?_
      simp only [Function.comp_apply, Nat.mod_add_mod]
      congr 1
      omega

/-- With LF = 0 the k-th position is `k` advances and the skips before it away. -/
theorem positions_replicate_false {L R : Nat} (hR : 1 ≤ R) (n : Nat) : ∀ p < L, ∀ c, 1 ≤ c →
    positions L R p c (List.replicate n false) = (List.range n).map fun k => (p + (k + skipCount R c k)) % L := by
  induction n with
  | zero => exact fun _ _ _ _ => rfl
  | succ n ih =>
    intro p hp c hc
    have hL : 0 < L := Nat.zero_lt_of_lt hp
    have hfirst : p = (p + (0 + skipCount R c 0)) % L := by
      rw [skipCount_zero R hc]
      exact (Nat.mod_eq_of_lt hp).symm
    rw [List.replicate_succ, List.range_succ_eq_map, List.map_cons, List.map_map, ← hfirst]
    obtain rfl | hgt : c = 1 ∨ 1 < c := by omega
    · rw [positions_false_of_eq_one, ih _ (Nat.mod_lt _ hL) _ hR]
      refine congrArg (p :: ·) (List.map_congr_left fun k _ => ?_)
      simp only [Function.comp_apply, Nat.mod_add_mod, skipCount_succ_of_eq_one hR, Nat.succ_eq_add_one]
      congr 1
      omega
    · rw [positions_false_of_one_lt _ _ _ hgt, ih _ (Nat.mod_lt _ hL) _ (by omega)]
      refine congrArg (p :: ·) (List.map_congr_left fun k _ => ?_)
      simp only [Function.comp_apply, Nat.mod_add_mod, skipCount_succ_of_one_lt R hgt, Nat.succ_eq_add_one]
      congr 1
      omega

end Sys2Proof.Machine

open Sys2Proof Sys2Proof.Machine

/-- Settles O54: with no commit requested at the start, the first BOUNDARY commits nothing. -/
theorem outputTimelineFollowsThePositions : Obligations.OutputTimelineFollowsThePositions := by
  intro lfs s hr hok hinv hp hc
  have hs : s.Admitted := ⟨hr, hok, hinv⟩
  have hcommits := commits_ticks lfs s hs hp
  have hlength := length_commits_ticks lfs s hs hp
  rw [commitOf_boundary_of_no_creq hc] at hcommits hlength
  exact ⟨hcommits, hlength.trans (Nat.zero_add _)⟩

/-- Settles O55: the timeline at the positions of each mode, a full counter skipping once in R invocations. -/
theorem committedSamplesInEachMode : Obligations.CommittedSamplesInEachMode := by
  intro n s hr hok hinv hp hc hidx hcnt
  have htimeline (lf : Bool) := (outputTimelineFollowsThePositions (List.replicate n lf) s hr hok hinv hp hc).1
  obtain ⟨hlt, -, hpos, -⟩ := hinv
  rw [hidx] at hlt
  rw [hcnt] at hpos
  dsimp only
  rw [htimeline, htimeline, hidx, hcnt, positions_replicate_true _ _ _ 0 hlt,
    positions_replicate_false hpos _ 0 hlt _ hpos]
  simp only [List.filterMap_map, Function.comp_def, Nat.zero_add, skipCount_full hpos, and_self]

/-- Settles O56: CYCLE writes the sample cached before it and the BOUNDARY after it commits that sample. -/
theorem outputLagsTwoBoundaries : Obligations.OutputLagsTwoBoundaries := by
  intro lf lf' s hr hok hinv hp hc
  have hs : s.Admitted := ⟨hr, hok, hinv⟩
  obtain ⟨hb, v, hcyc, ht⟩ := performs_tick hs hp lf
  obtain ⟨hb', v', hcyc', ht'⟩ := performs_tick ht rfl lf'
  have hb'' := performs_boundary ht'.ready.2 ht'.inv rfl
  refine ⟨afterTick lf v s, afterBoundary (afterTick lf v s), afterBoundary (afterTick lf' v' (afterTick lf v s)),
    ?_, ?_, ?_, runOps_cons (hb'.exec_eq ht.ready.1) [], rfl, rfl, ?_, rfl, rfl⟩
  · rw [runOps_cons (hb.exec_eq hs.ready.1), runOps_cons (hcyc.exec_eq hs.ready.1)]
    rfl
  · simp [afterTick, afterCycle, afterBoundary, hc]
  · simp [afterTick, afterCycle, afterBoundary, hc]
  · rw [runOps_cons (hcyc'.exec_eq ht.ready.1), runOps_cons (hb''.exec_eq ht'.ready.1)]
    rfl

end
